-- ==== Sys2Proof/Word.lean ====
section
/-! DEFINITION. Word: the bit-vector types of the instruction word and its fields (30_encoding.md R71, R72). -/

namespace Sys2Proof

/-- A Format 3 word, 24 bits (R70, R71). -/
abbrev Word24 := BitVec 24
/-- A Format 4 word, 32 bits (R70, R72); also the `word` port (R32). -/
abbrev Word32 := BitVec 32
/-- KG's OpcodePrefix: bits 0 to 5 of the word, counted from the most significant (R120). -/
abbrev Opcode6 := BitVec 6
/-- The displacement field of Format 3 (R71). -/
abbrev Field12 := BitVec 12
/-- The address field of Format 4 (R72); also the `disp_raw` port (R32). -/
abbrev Field20 := BitVec 20

end Sys2Proof
end

