-- ==== Sys2Proof/Syntax.lean ====
section
/-! DEFINITION. Syntax: the names the block's outputs use (00_scope.md R14), the fields of a word (41_field_extractor.md), and
the 32 decode classes of opcode_table.json (30_encoding.md R76, R85), which are this hardware's instructions. -/

namespace Sys2Proof

/-- `fmt` (R14). -/
inductive Format where
  | f3 | f4
  deriving DecidableEq, Repr

/-- `mode` (R14, R140). -/
inductive Mode where
  | simple | simpleSic | simpleDirect4 | immediate | indirect
  deriving DecidableEq, Repr

/-- `qual` (R14, R142). -/
inductive Qual where
  | none | pcRel | baseRel | direct | absolute
  deriving DecidableEq, Repr

/-- The three decode errors (R260). -/
inductive DecodeError where
  | invalidHex              -- INVALID_HEX (R261)
  | unsupportedFormat       -- UNSUPPORTED_FORMAT (R262)
  | invalidFlagCombination  -- INVALID_FLAG_COMBINATION (R263)
  deriving DecidableEq, Repr

/-- What the extractor slices from a word (R120, R122, R123). `dispRaw` is the 20-bit port form: a Format 3 field is
zero-extended (R123). -/
structure Fields where
  opcode6 : Opcode6
  n : Bool
  i : Bool
  x : Bool
  b : Bool
  p : Bool
  e : Bool
  dispRaw : Field20
  deriving DecidableEq, Repr

/-- What the format classifier answers (R104): a word of one of the two formats, or one of its two errors. -/
inductive Classified where
  | f3 (w : Word24)
  | f4 (w : Word32)
  | rejected (err : DecodeError)
  deriving DecidableEq, Repr

/-- The length class of the bounded front end (R107). -/
inductive LenClass where
  | six | eight | other
  deriving DecidableEq, Repr

/-- The three signals of the bounded front end (R107). `value` is `none` where no rule gives it: for the length class OTHER
(log entry 8), and where a character is no hex digit (log entry 16). -/
structure FrontEnd where
  hexOk : Bool
  lenClass : LenClass
  value : Option Word32
  deriving DecidableEq, Repr

/-- A row of opcode_table.json as R85 describes it: a word `w` of format `fmt` matches when `w &&& mask = bits`. -/
structure TableRow where
  mnemonic : String
  fmt : Format
  bits : Word32
  mask : Word32
  deriving DecidableEq, Repr

/-- The 32 decode classes, in the table's order. Each carries what the class leaves free: `opcode6` (R78: all 64 values),
the flags `x` and `e` (R77), and the displacement or address field. The flags n, i, b and p are the class itself (R76). -/
inductive Instr where
  /-- `F3.SIMPLE_SIC.b0p0` (R210). -/
  | f3SimpleSicB0P0 (opcode6 : Opcode6) (x e : Bool) (d : Field12)
  /-- `F3.SIMPLE_SIC.b0p1` (R211). -/
  | f3SimpleSicB0P1 (opcode6 : Opcode6) (x e : Bool) (d : Field12)
  /-- `F3.SIMPLE_SIC.b1p0` (R212). -/
  | f3SimpleSicB1P0 (opcode6 : Opcode6) (x e : Bool) (d : Field12)
  /-- `F3.SIMPLE_SIC.b1p1` (R213). -/
  | f3SimpleSicB1P1 (opcode6 : Opcode6) (x e : Bool) (d : Field12)
  /-- `F3.SIMPLE.b0p0` (R214). -/
  | f3SimpleB0P0 (opcode6 : Opcode6) (x e : Bool) (d : Field12)
  /-- `F3.SIMPLE.b0p1` (R215). -/
  | f3SimpleB0P1 (opcode6 : Opcode6) (x e : Bool) (d : Field12)
  /-- `F3.SIMPLE.b1p0` (R216). -/
  | f3SimpleB1P0 (opcode6 : Opcode6) (x e : Bool) (d : Field12)
  /-- `F3.SIMPLE.b1p1` (R217). -/
  | f3SimpleB1P1 (opcode6 : Opcode6) (x e : Bool) (d : Field12)
  /-- `F3.IMMEDIATE.b0p0` (R218). -/
  | f3ImmediateB0P0 (opcode6 : Opcode6) (x e : Bool) (d : Field12)
  /-- `F3.IMMEDIATE.b0p1` (R219). -/
  | f3ImmediateB0P1 (opcode6 : Opcode6) (x e : Bool) (d : Field12)
  /-- `F3.IMMEDIATE.b1p0` (R220). -/
  | f3ImmediateB1P0 (opcode6 : Opcode6) (x e : Bool) (d : Field12)
  /-- `F3.IMMEDIATE.b1p1` (R221). -/
  | f3ImmediateB1P1 (opcode6 : Opcode6) (x e : Bool) (d : Field12)
  /-- `F3.INDIRECT.b0p0` (R222). -/
  | f3IndirectB0P0 (opcode6 : Opcode6) (x e : Bool) (d : Field12)
  /-- `F3.INDIRECT.b0p1` (R223). -/
  | f3IndirectB0P1 (opcode6 : Opcode6) (x e : Bool) (d : Field12)
  /-- `F3.INDIRECT.b1p0` (R224). -/
  | f3IndirectB1P0 (opcode6 : Opcode6) (x e : Bool) (d : Field12)
  /-- `F3.INDIRECT.b1p1` (R225). -/
  | f3IndirectB1P1 (opcode6 : Opcode6) (x e : Bool) (d : Field12)
  /-- `F4.SIMPLE_DIRECT4.b0p0` (R230). -/
  | f4SimpleDirect4B0P0 (opcode6 : Opcode6) (x e : Bool) (d : Field20)
  /-- `F4.SIMPLE_DIRECT4.b0p1` (R231). -/
  | f4SimpleDirect4B0P1 (opcode6 : Opcode6) (x e : Bool) (d : Field20)
  /-- `F4.SIMPLE_DIRECT4.b1p0` (R232). -/
  | f4SimpleDirect4B1P0 (opcode6 : Opcode6) (x e : Bool) (d : Field20)
  /-- `F4.SIMPLE_DIRECT4.b1p1` (R233). -/
  | f4SimpleDirect4B1P1 (opcode6 : Opcode6) (x e : Bool) (d : Field20)
  /-- `F4.SIMPLE.b0p0` (R234). -/
  | f4SimpleB0P0 (opcode6 : Opcode6) (x e : Bool) (d : Field20)
  /-- `F4.SIMPLE.b0p1` (R235). -/
  | f4SimpleB0P1 (opcode6 : Opcode6) (x e : Bool) (d : Field20)
  /-- `F4.SIMPLE.b1p0` (R236). -/
  | f4SimpleB1P0 (opcode6 : Opcode6) (x e : Bool) (d : Field20)
  /-- `F4.SIMPLE.b1p1` (R237). -/
  | f4SimpleB1P1 (opcode6 : Opcode6) (x e : Bool) (d : Field20)
  /-- `F4.IMMEDIATE.b0p0` (R238). -/
  | f4ImmediateB0P0 (opcode6 : Opcode6) (x e : Bool) (d : Field20)
  /-- `F4.IMMEDIATE.b0p1` (R239). -/
  | f4ImmediateB0P1 (opcode6 : Opcode6) (x e : Bool) (d : Field20)
  /-- `F4.IMMEDIATE.b1p0` (R240). -/
  | f4ImmediateB1P0 (opcode6 : Opcode6) (x e : Bool) (d : Field20)
  /-- `F4.IMMEDIATE.b1p1` (R241). -/
  | f4ImmediateB1P1 (opcode6 : Opcode6) (x e : Bool) (d : Field20)
  /-- `F4.INDIRECT.b0p0` (R242). -/
  | f4IndirectB0P0 (opcode6 : Opcode6) (x e : Bool) (d : Field20)
  /-- `F4.INDIRECT.b0p1` (R243). -/
  | f4IndirectB0P1 (opcode6 : Opcode6) (x e : Bool) (d : Field20)
  /-- `F4.INDIRECT.b1p0` (R244). -/
  | f4IndirectB1P0 (opcode6 : Opcode6) (x e : Bool) (d : Field20)
  /-- `F4.INDIRECT.b1p1` (R245). -/
  | f4IndirectB1P1 (opcode6 : Opcode6) (x e : Bool) (d : Field20)
  deriving DecidableEq, Repr

/-- The answer of the decoder: the instruction, or the rejection by the name of its error. -/
inductive Decoded where
  | instr (i : Instr)
  | rejected (err : DecodeError)
  deriving DecidableEq, Repr

end Sys2Proof
end

