-- ==== Sys2Proof/Decode.lean ====
section
/-! DEFINITION. Decode: from characters to an instruction or a rejection by name (40_format_classifier.md, 41_field_extractor.md,
30_encoding.md), and back: the encoder, written from the layouts R71 and R72 and the class bits of R76. -/

namespace Sys2Proof

/-! ## Hex digits and the word (R100 to R103) -/

/-- `digit(c)`: the value of the 22 hex digits, by the code-point ranges of R100; `none` for every other character. -/
def hexDigit? (c : Char) : Option Nat :=
  if 0x30 ≤ c.toNat ∧ c.toNat ≤ 0x39 then some (c.toNat - 0x30)
  else if 0x41 ≤ c.toNat ∧ c.toNat ≤ 0x46 then some (c.toNat - 0x41 + 10)
  else if 0x61 ≤ c.toNat ∧ c.toNat ≤ 0x66 then some (c.toNat - 0x61 + 10)
  else none

/-- R100. -/
def isHexDigit (c : Char) : Bool := (hexDigit? c).isSome

/-- `digit(c)` (R103). R100 gives a character that is no hex digit no value; the 0 here only makes the function total (DESIGN
CHOICE, log entry 16): every reader of it has `hex_ok` first, so it reaches no output and no signal. -/
def digitValue (c : Char) : Nat := (hexDigit? c).getD 0

/-- `hex_ok`: at least one character, and every character a hex digit (R101). -/
def hexOk (cs : List Char) : Bool := !cs.isEmpty && cs.all isHexDigit

/-- The base-16 value, the first character most significant (R103, R51). -/
def hexValue (cs : List Char) : Nat := cs.foldl (fun acc c => acc * 16 + digitValue c) 0

/-- Upper case of an ASCII letter; every other character is itself (R102, KG §4.1 step 1). -/
def upcase (c : Char) : Char := if 0x61 ≤ c.toNat ∧ c.toNat ≤ 0x7A then Char.ofNat (c.toNat - 0x20) else c

/-- "Uppercase-normalize `hex_code`" (R102). -/
def normalise (cs : List Char) : List Char := cs.map upcase

/-! ## The format classifier (R104 to R107) -/

/-- R104: hex check, then length; R106 gives the order of the two errors. -/
def classify (cs : List Char) : Classified :=
  if hexOk cs = false then .rejected .invalidHex
  else if cs.length = 6 then .f3 (BitVec.ofNat 24 (hexValue cs))
  else if cs.length = 8 then .f4 (BitVec.ofNat 32 (hexValue cs))
  else .rejected .unsupportedFormat

/-- `len_class` (R107). -/
def lenClass (cs : List Char) : LenClass :=
  if cs.length = 6 then .six else if cs.length = 8 then .eight else .other

/-- The reduction of the character sequence to the three signals of R107. R107 leaves `value` unspecified for the length class
OTHER; of 6 or 8 characters with one that is no hex digit it gives no word either, since R103 assembles one only when `hex_ok`
holds and R100 gives that character no value. In both cases the signal is absent here (DESIGN CHOICE for the second, log entry 16;
log entry 8 for the first). -/
def frontEnd (cs : List Char) : FrontEnd :=
  { hexOk := hexOk cs
    lenClass := lenClass cs
    value := if hexOk cs = true ∧ lenClass cs ≠ .other then some (BitVec.ofNat 32 (hexValue cs)) else none }

/-- The classifier of a realisation that has only the three signals of R107. A front end with `hex_ok`, a length class other
than OTHER and no value is none that `frontEnd` builds (DESIGN CHOICE, log entry 11). -/
def classifyFrontEnd (f : FrontEnd) : Classified :=
  match f.hexOk, f.lenClass, f.value with
  | false, _, _ => .rejected .invalidHex
  | true, .six, some v => .f3 (v.setWidth 24)
  | true, .eight, some v => .f4 v
  | true, .six, none => .rejected .unsupportedFormat
  | true, .eight, none => .rejected .unsupportedFormat
  | true, .other, _ => .rejected .unsupportedFormat

/-! ## The extractor (R120 to R124) -/

/-- The extractor operation of R124 on a word of `W` bits: `opcode6 = w[W-1:W-6]`, the six flags below it, and the rest. -/
def extract {W : Nat} (w : BitVec W) : Fields :=
  { opcode6 := w.extractLsb' (W - 6) 6
    n := w.getLsbD (W - 7)
    i := w.getLsbD (W - 8)
    x := w.getLsbD (W - 9)
    b := w.getLsbD (W - 10)
    p := w.getLsbD (W - 11)
    e := w.getLsbD (W - 12)
    dispRaw := (w.extractLsb' 0 (W - 12)).setWidth 20 }

/-! ## The decode map (R76) -/

/-- The 16 classes of Format 3: one for each (n, i, b, p). -/
def decodeF3 (w : Word24) : Instr :=
  match (extract w).n, (extract w).i, (extract w).b, (extract w).p with
  | false, false, false, false => .f3SimpleSicB0P0 (extract w).opcode6 (extract w).x (extract w).e (w.extractLsb' 0 12)
  | false, false, false, true => .f3SimpleSicB0P1 (extract w).opcode6 (extract w).x (extract w).e (w.extractLsb' 0 12)
  | false, false, true, false => .f3SimpleSicB1P0 (extract w).opcode6 (extract w).x (extract w).e (w.extractLsb' 0 12)
  | false, false, true, true => .f3SimpleSicB1P1 (extract w).opcode6 (extract w).x (extract w).e (w.extractLsb' 0 12)
  | true, true, false, false => .f3SimpleB0P0 (extract w).opcode6 (extract w).x (extract w).e (w.extractLsb' 0 12)
  | true, true, false, true => .f3SimpleB0P1 (extract w).opcode6 (extract w).x (extract w).e (w.extractLsb' 0 12)
  | true, true, true, false => .f3SimpleB1P0 (extract w).opcode6 (extract w).x (extract w).e (w.extractLsb' 0 12)
  | true, true, true, true => .f3SimpleB1P1 (extract w).opcode6 (extract w).x (extract w).e (w.extractLsb' 0 12)
  | false, true, false, false => .f3ImmediateB0P0 (extract w).opcode6 (extract w).x (extract w).e (w.extractLsb' 0 12)
  | false, true, false, true => .f3ImmediateB0P1 (extract w).opcode6 (extract w).x (extract w).e (w.extractLsb' 0 12)
  | false, true, true, false => .f3ImmediateB1P0 (extract w).opcode6 (extract w).x (extract w).e (w.extractLsb' 0 12)
  | false, true, true, true => .f3ImmediateB1P1 (extract w).opcode6 (extract w).x (extract w).e (w.extractLsb' 0 12)
  | true, false, false, false => .f3IndirectB0P0 (extract w).opcode6 (extract w).x (extract w).e (w.extractLsb' 0 12)
  | true, false, false, true => .f3IndirectB0P1 (extract w).opcode6 (extract w).x (extract w).e (w.extractLsb' 0 12)
  | true, false, true, false => .f3IndirectB1P0 (extract w).opcode6 (extract w).x (extract w).e (w.extractLsb' 0 12)
  | true, false, true, true => .f3IndirectB1P1 (extract w).opcode6 (extract w).x (extract w).e (w.extractLsb' 0 12)

/-- The 16 classes of Format 4: one for each (n, i, b, p). -/
def decodeF4 (w : Word32) : Instr :=
  match (extract w).n, (extract w).i, (extract w).b, (extract w).p with
  | false, false, false, false => .f4SimpleDirect4B0P0 (extract w).opcode6 (extract w).x (extract w).e (w.extractLsb' 0 20)
  | false, false, false, true => .f4SimpleDirect4B0P1 (extract w).opcode6 (extract w).x (extract w).e (w.extractLsb' 0 20)
  | false, false, true, false => .f4SimpleDirect4B1P0 (extract w).opcode6 (extract w).x (extract w).e (w.extractLsb' 0 20)
  | false, false, true, true => .f4SimpleDirect4B1P1 (extract w).opcode6 (extract w).x (extract w).e (w.extractLsb' 0 20)
  | true, true, false, false => .f4SimpleB0P0 (extract w).opcode6 (extract w).x (extract w).e (w.extractLsb' 0 20)
  | true, true, false, true => .f4SimpleB0P1 (extract w).opcode6 (extract w).x (extract w).e (w.extractLsb' 0 20)
  | true, true, true, false => .f4SimpleB1P0 (extract w).opcode6 (extract w).x (extract w).e (w.extractLsb' 0 20)
  | true, true, true, true => .f4SimpleB1P1 (extract w).opcode6 (extract w).x (extract w).e (w.extractLsb' 0 20)
  | false, true, false, false => .f4ImmediateB0P0 (extract w).opcode6 (extract w).x (extract w).e (w.extractLsb' 0 20)
  | false, true, false, true => .f4ImmediateB0P1 (extract w).opcode6 (extract w).x (extract w).e (w.extractLsb' 0 20)
  | false, true, true, false => .f4ImmediateB1P0 (extract w).opcode6 (extract w).x (extract w).e (w.extractLsb' 0 20)
  | false, true, true, true => .f4ImmediateB1P1 (extract w).opcode6 (extract w).x (extract w).e (w.extractLsb' 0 20)
  | true, false, false, false => .f4IndirectB0P0 (extract w).opcode6 (extract w).x (extract w).e (w.extractLsb' 0 20)
  | true, false, false, true => .f4IndirectB0P1 (extract w).opcode6 (extract w).x (extract w).e (w.extractLsb' 0 20)
  | true, false, true, false => .f4IndirectB1P0 (extract w).opcode6 (extract w).x (extract w).e (w.extractLsb' 0 20)
  | true, false, true, true => .f4IndirectB1P1 (extract w).opcode6 (extract w).x (extract w).e (w.extractLsb' 0 20)

/-- The decoder, total on any character sequence: the classifier's errors by name, else the word's class. A word whose flags
are (b, p) = (1, 1) in a qualified mode IS a class of the table (R217 and its like); its meaning raises the error of step 6. -/
def decodeHex (cs : List Char) : Decoded :=
  match classify cs with
  | .f3 w => .instr (decodeF3 w)
  | .f4 w => .instr (decodeF4 w)
  | .rejected err => .rejected err

/-! ## The encoder -/

/-- The fields of a Format 3 word of the class with flags n, i, b, p. -/
def f3Fields (op : Opcode6) (n i x b p e : Bool) (d : Field12) : Fields :=
  { opcode6 := op, n := n, i := i, x := x, b := b, p := p, e := e, dispRaw := d.setWidth 20 }

/-- The fields of a Format 4 word of the class with flags n, i, b, p. -/
def f4Fields (op : Opcode6) (n i x b p e : Bool) (d : Field20) : Fields :=
  { opcode6 := op, n := n, i := i, x := x, b := b, p := p, e := e, dispRaw := d }

/-- The layout R71: `oooooonixbpedddddddddddd`. -/
def packF3 (f : Fields) : Word24 :=
  f.opcode6 ++ BitVec.ofBool f.n ++ BitVec.ofBool f.i ++ BitVec.ofBool f.x ++ BitVec.ofBool f.b ++ BitVec.ofBool f.p
    ++ BitVec.ofBool f.e ++ (f.dispRaw.setWidth 12 : Field12)

/-- The layout R72: `oooooonixbpeaaaaaaaaaaaaaaaaaaaa`. -/
def packF4 (f : Fields) : Word32 :=
  f.opcode6 ++ BitVec.ofBool f.n ++ BitVec.ofBool f.i ++ BitVec.ofBool f.x ++ BitVec.ofBool f.b ++ BitVec.ofBool f.p
    ++ BitVec.ofBool f.e ++ f.dispRaw

/-- The format of a class (R76). -/
def Instr.fmt : Instr → Format
  | .f3SimpleSicB0P0 _ _ _ _ => .f3
  | .f3SimpleSicB0P1 _ _ _ _ => .f3
  | .f3SimpleSicB1P0 _ _ _ _ => .f3
  | .f3SimpleSicB1P1 _ _ _ _ => .f3
  | .f3SimpleB0P0 _ _ _ _ => .f3
  | .f3SimpleB0P1 _ _ _ _ => .f3
  | .f3SimpleB1P0 _ _ _ _ => .f3
  | .f3SimpleB1P1 _ _ _ _ => .f3
  | .f3ImmediateB0P0 _ _ _ _ => .f3
  | .f3ImmediateB0P1 _ _ _ _ => .f3
  | .f3ImmediateB1P0 _ _ _ _ => .f3
  | .f3ImmediateB1P1 _ _ _ _ => .f3
  | .f3IndirectB0P0 _ _ _ _ => .f3
  | .f3IndirectB0P1 _ _ _ _ => .f3
  | .f3IndirectB1P0 _ _ _ _ => .f3
  | .f3IndirectB1P1 _ _ _ _ => .f3
  | .f4SimpleDirect4B0P0 _ _ _ _ => .f4
  | .f4SimpleDirect4B0P1 _ _ _ _ => .f4
  | .f4SimpleDirect4B1P0 _ _ _ _ => .f4
  | .f4SimpleDirect4B1P1 _ _ _ _ => .f4
  | .f4SimpleB0P0 _ _ _ _ => .f4
  | .f4SimpleB0P1 _ _ _ _ => .f4
  | .f4SimpleB1P0 _ _ _ _ => .f4
  | .f4SimpleB1P1 _ _ _ _ => .f4
  | .f4ImmediateB0P0 _ _ _ _ => .f4
  | .f4ImmediateB0P1 _ _ _ _ => .f4
  | .f4ImmediateB1P0 _ _ _ _ => .f4
  | .f4ImmediateB1P1 _ _ _ _ => .f4
  | .f4IndirectB0P0 _ _ _ _ => .f4
  | .f4IndirectB0P1 _ _ _ _ => .f4
  | .f4IndirectB1P0 _ _ _ _ => .f4
  | .f4IndirectB1P1 _ _ _ _ => .f4

/-- The fields of an instruction's word: its operands, and the n, i, b, p of its class (R76). -/
def Instr.fields : Instr → Fields
  | .f3SimpleSicB0P0 op x e d => f3Fields op false false x false false e d
  | .f3SimpleSicB0P1 op x e d => f3Fields op false false x false true e d
  | .f3SimpleSicB1P0 op x e d => f3Fields op false false x true false e d
  | .f3SimpleSicB1P1 op x e d => f3Fields op false false x true true e d
  | .f3SimpleB0P0 op x e d => f3Fields op true true x false false e d
  | .f3SimpleB0P1 op x e d => f3Fields op true true x false true e d
  | .f3SimpleB1P0 op x e d => f3Fields op true true x true false e d
  | .f3SimpleB1P1 op x e d => f3Fields op true true x true true e d
  | .f3ImmediateB0P0 op x e d => f3Fields op false true x false false e d
  | .f3ImmediateB0P1 op x e d => f3Fields op false true x false true e d
  | .f3ImmediateB1P0 op x e d => f3Fields op false true x true false e d
  | .f3ImmediateB1P1 op x e d => f3Fields op false true x true true e d
  | .f3IndirectB0P0 op x e d => f3Fields op true false x false false e d
  | .f3IndirectB0P1 op x e d => f3Fields op true false x false true e d
  | .f3IndirectB1P0 op x e d => f3Fields op true false x true false e d
  | .f3IndirectB1P1 op x e d => f3Fields op true false x true true e d
  | .f4SimpleDirect4B0P0 op x e d => f4Fields op false false x false false e d
  | .f4SimpleDirect4B0P1 op x e d => f4Fields op false false x false true e d
  | .f4SimpleDirect4B1P0 op x e d => f4Fields op false false x true false e d
  | .f4SimpleDirect4B1P1 op x e d => f4Fields op false false x true true e d
  | .f4SimpleB0P0 op x e d => f4Fields op true true x false false e d
  | .f4SimpleB0P1 op x e d => f4Fields op true true x false true e d
  | .f4SimpleB1P0 op x e d => f4Fields op true true x true false e d
  | .f4SimpleB1P1 op x e d => f4Fields op true true x true true e d
  | .f4ImmediateB0P0 op x e d => f4Fields op false true x false false e d
  | .f4ImmediateB0P1 op x e d => f4Fields op false true x false true e d
  | .f4ImmediateB1P0 op x e d => f4Fields op false true x true false e d
  | .f4ImmediateB1P1 op x e d => f4Fields op false true x true true e d
  | .f4IndirectB0P0 op x e d => f4Fields op true false x false false e d
  | .f4IndirectB0P1 op x e d => f4Fields op true false x false true e d
  | .f4IndirectB1P0 op x e d => f4Fields op true false x true false e d
  | .f4IndirectB1P1 op x e d => f4Fields op true false x true true e d

/-- The instruction's word on the 32-bit `word` port, a Format 3 word right-aligned (R103, D15). -/
def Instr.word (i : Instr) : Word32 :=
  match i.fmt with
  | .f3 => (packF3 i.fields).setWidth 32
  | .f4 => packF4 i.fields

/-- The upper-case hex digit of a value below 16 (R100). -/
def digitChar (v : Nat) : Char := if v < 10 then Char.ofNat (0x30 + v) else Char.ofNat (0x37 + v)

/-- The `k` hex digits of the low `4k` bits of `w`, the most significant first (R51). -/
def hexString : Nat → Nat → List Char
  | 0, _ => []
  | k + 1, w => digitChar (w / 16 ^ k % 16) :: hexString k w

/-- How many hex digits a word of the format has (R70). -/
def Format.digits : Format → Nat
  | .f3 => 6
  | .f4 => 8

/-- The encoder: the characters of an instruction's word. -/
def encode (i : Instr) : List Char := hexString i.fmt.digits i.word.toNat

/-! ## The opcode table (R85) -/

/-- The mnemonic of a class in opcode_table.json. -/
def Instr.mnemonic : Instr → String
  | .f3SimpleSicB0P0 _ _ _ _ => "F3.SIMPLE_SIC.b0p0"
  | .f3SimpleSicB0P1 _ _ _ _ => "F3.SIMPLE_SIC.b0p1"
  | .f3SimpleSicB1P0 _ _ _ _ => "F3.SIMPLE_SIC.b1p0"
  | .f3SimpleSicB1P1 _ _ _ _ => "F3.SIMPLE_SIC.b1p1"
  | .f3SimpleB0P0 _ _ _ _ => "F3.SIMPLE.b0p0"
  | .f3SimpleB0P1 _ _ _ _ => "F3.SIMPLE.b0p1"
  | .f3SimpleB1P0 _ _ _ _ => "F3.SIMPLE.b1p0"
  | .f3SimpleB1P1 _ _ _ _ => "F3.SIMPLE.b1p1"
  | .f3ImmediateB0P0 _ _ _ _ => "F3.IMMEDIATE.b0p0"
  | .f3ImmediateB0P1 _ _ _ _ => "F3.IMMEDIATE.b0p1"
  | .f3ImmediateB1P0 _ _ _ _ => "F3.IMMEDIATE.b1p0"
  | .f3ImmediateB1P1 _ _ _ _ => "F3.IMMEDIATE.b1p1"
  | .f3IndirectB0P0 _ _ _ _ => "F3.INDIRECT.b0p0"
  | .f3IndirectB0P1 _ _ _ _ => "F3.INDIRECT.b0p1"
  | .f3IndirectB1P0 _ _ _ _ => "F3.INDIRECT.b1p0"
  | .f3IndirectB1P1 _ _ _ _ => "F3.INDIRECT.b1p1"
  | .f4SimpleDirect4B0P0 _ _ _ _ => "F4.SIMPLE_DIRECT4.b0p0"
  | .f4SimpleDirect4B0P1 _ _ _ _ => "F4.SIMPLE_DIRECT4.b0p1"
  | .f4SimpleDirect4B1P0 _ _ _ _ => "F4.SIMPLE_DIRECT4.b1p0"
  | .f4SimpleDirect4B1P1 _ _ _ _ => "F4.SIMPLE_DIRECT4.b1p1"
  | .f4SimpleB0P0 _ _ _ _ => "F4.SIMPLE.b0p0"
  | .f4SimpleB0P1 _ _ _ _ => "F4.SIMPLE.b0p1"
  | .f4SimpleB1P0 _ _ _ _ => "F4.SIMPLE.b1p0"
  | .f4SimpleB1P1 _ _ _ _ => "F4.SIMPLE.b1p1"
  | .f4ImmediateB0P0 _ _ _ _ => "F4.IMMEDIATE.b0p0"
  | .f4ImmediateB0P1 _ _ _ _ => "F4.IMMEDIATE.b0p1"
  | .f4ImmediateB1P0 _ _ _ _ => "F4.IMMEDIATE.b1p0"
  | .f4ImmediateB1P1 _ _ _ _ => "F4.IMMEDIATE.b1p1"
  | .f4IndirectB0P0 _ _ _ _ => "F4.INDIRECT.b0p0"
  | .f4IndirectB0P1 _ _ _ _ => "F4.INDIRECT.b0p1"
  | .f4IndirectB1P0 _ _ _ _ => "F4.INDIRECT.b1p0"
  | .f4IndirectB1P1 _ _ _ _ => "F4.INDIRECT.b1p1"

/-- opcode_table.json, Format 3: mask over bits 17, 16, 14 and 13. -/
def tableF3 : List TableRow := [
  ⟨"F3.SIMPLE_SIC.b0p0", .f3, 0x0, 0x36000⟩,
  ⟨"F3.SIMPLE_SIC.b0p1", .f3, 0x2000, 0x36000⟩,
  ⟨"F3.SIMPLE_SIC.b1p0", .f3, 0x4000, 0x36000⟩,
  ⟨"F3.SIMPLE_SIC.b1p1", .f3, 0x6000, 0x36000⟩,
  ⟨"F3.SIMPLE.b0p0", .f3, 0x30000, 0x36000⟩,
  ⟨"F3.SIMPLE.b0p1", .f3, 0x32000, 0x36000⟩,
  ⟨"F3.SIMPLE.b1p0", .f3, 0x34000, 0x36000⟩,
  ⟨"F3.SIMPLE.b1p1", .f3, 0x36000, 0x36000⟩,
  ⟨"F3.IMMEDIATE.b0p0", .f3, 0x10000, 0x36000⟩,
  ⟨"F3.IMMEDIATE.b0p1", .f3, 0x12000, 0x36000⟩,
  ⟨"F3.IMMEDIATE.b1p0", .f3, 0x14000, 0x36000⟩,
  ⟨"F3.IMMEDIATE.b1p1", .f3, 0x16000, 0x36000⟩,
  ⟨"F3.INDIRECT.b0p0", .f3, 0x20000, 0x36000⟩,
  ⟨"F3.INDIRECT.b0p1", .f3, 0x22000, 0x36000⟩,
  ⟨"F3.INDIRECT.b1p0", .f3, 0x24000, 0x36000⟩,
  ⟨"F3.INDIRECT.b1p1", .f3, 0x26000, 0x36000⟩]

/-- opcode_table.json, Format 4: mask over bits 25, 24, 22 and 21. -/
def tableF4 : List TableRow := [
  ⟨"F4.SIMPLE_DIRECT4.b0p0", .f4, 0x0, 0x3600000⟩,
  ⟨"F4.SIMPLE_DIRECT4.b0p1", .f4, 0x200000, 0x3600000⟩,
  ⟨"F4.SIMPLE_DIRECT4.b1p0", .f4, 0x400000, 0x3600000⟩,
  ⟨"F4.SIMPLE_DIRECT4.b1p1", .f4, 0x600000, 0x3600000⟩,
  ⟨"F4.SIMPLE.b0p0", .f4, 0x3000000, 0x3600000⟩,
  ⟨"F4.SIMPLE.b0p1", .f4, 0x3200000, 0x3600000⟩,
  ⟨"F4.SIMPLE.b1p0", .f4, 0x3400000, 0x3600000⟩,
  ⟨"F4.SIMPLE.b1p1", .f4, 0x3600000, 0x3600000⟩,
  ⟨"F4.IMMEDIATE.b0p0", .f4, 0x1000000, 0x3600000⟩,
  ⟨"F4.IMMEDIATE.b0p1", .f4, 0x1200000, 0x3600000⟩,
  ⟨"F4.IMMEDIATE.b1p0", .f4, 0x1400000, 0x3600000⟩,
  ⟨"F4.IMMEDIATE.b1p1", .f4, 0x1600000, 0x3600000⟩,
  ⟨"F4.INDIRECT.b0p0", .f4, 0x2000000, 0x3600000⟩,
  ⟨"F4.INDIRECT.b0p1", .f4, 0x2200000, 0x3600000⟩,
  ⟨"F4.INDIRECT.b1p0", .f4, 0x2400000, 0x3600000⟩,
  ⟨"F4.INDIRECT.b1p1", .f4, 0x2600000, 0x3600000⟩]

/-- R85: "A word matches a row when `word & mask = match`, and its length selects the format". `w` is the `word` port. -/
def TableRow.hits (r : TableRow) (fmt : Format) (w : Word32) : Bool := r.fmt == fmt && (w &&& r.mask) == r.bits

/-! ## Words numbered as the table numbers them -/

/-- The character sequence of a table word. The table numbers a word as one number, bit 0 least significant (R10), and the
hardware takes its digits most significant first (R51). `nbits` up to 24 stands for a Format 3 word, up to 32 for a Format 4
word; more has no format, and its digits are as many as its bytes ask for. -/
def tableHex (nbits w : Nat) : List Char := hexString (2 * ((max nbits 24 + 7) / 8)) (w % 2 ^ nbits)

/-- The instruction the decoder reads from a table word. -/
def decodeTableWord (nbits w : Nat) : Option Instr :=
  match decodeHex (tableHex nbits w) with
  | .instr i => some i
  | .rejected _ => none

end Sys2Proof
end

