-- ==== Sys2Proof/Machine/Flags.lean ====
section
/-! DEFINITION. Flags: what is computed from the opcode and the six flag bits: the effective opcode (R121), the mode multiplexer
(R140) and the qualifier multiplexer (R141 to R147). The block has no status flags (R36). -/

namespace Sys2Proof.Machine

open Sys2Proof

/-- `eff_opcode = zext_8(opcode6) & 0xFC` (R121; the formula, not KG's gloss: C2). -/
def effOpcode (op : Opcode6) : BitVec 8 := op.setWidth 8 &&& 0xFC

/-- The mode multiplexer, step 5 (R140). -/
def modeMux (fmt : Format) (n i : Bool) : Mode :=
  match n, i with
  | false, false => (match fmt with | .f3 => .simpleSic | .f4 => .simpleDirect4)
  | true, true => .simple
  | false, true => .immediate
  | true, false => .indirect

/-- The modes that take the (b, p) qualifier (R141, D9). -/
def Mode.qualified : Mode → Bool
  | .simple | .simpleDirect4 | .indirect => true
  | .simpleSic | .immediate => false

/-- The qualifier multiplexer, step 6 (R142); `none` is the INVALID_FLAG_COMBINATION of R143. -/
def qualMux (fmt : Format) (mode : Mode) (b p : Bool) : Option Qual :=
  if Mode.qualified mode then
    match b, p with
    | false, true => some .pcRel
    | true, false => some .baseRel
    | false, false => (match fmt with | .f3 => some .direct | .f4 => some .absolute)
    | true, true => none
  else some .none

end Sys2Proof.Machine
end

