-- ==== Sys2Proof/Config.lean ====
section
/-! DEFINITION. Config: the two instantiation parameters of the block (00_scope.md R5, R6, R9), and what is derived from
them (R7). The spec leaves no other value to an implementation, and no value of a completed decode open, so there is no
free value here. -/

namespace Sys2Proof

/-- The parameters fixed when the block is instantiated (R291). They are plain data that `State` carries and no step
writes, so that a statement about every state is a statement about every choice of the parameters.

`addrW` is `ADDR_W` (R5), the width of the `pc` and `base` ports.
`xOffset` is `X_OFFSET` (R6). R6 bounds it by `0 <= X_OFFSET < 2^M` with `M = max(ADDR_W, 20)`; that is what the width says. -/
structure Params where
  addrW : Nat
  xOffset : BitVec (max addrW 20)
  deriving DecidableEq, Repr

/-- `M = max(ADDR_W, 20)` (R6). -/
abbrev Params.boundW (P : Params) : Nat := max P.addrW 20

/-- `TA_W = max(ADDR_W, 20) + 3`, the width of the `ta` port (R7). -/
abbrev Params.taW (P : Params) : Nat := P.boundW + 3

/-- The defaults: `ADDR_W = 24` (R5, D3) and `X_OFFSET = 0x90` (R6, D5). DESIGN CHOICE (log entry 2): the reset state is
that of a block built with the defaults. -/
def Params.default : Params := { addrW := 24, xOffset := 0x90 }

end Sys2Proof
end

