-- ==== Sys2Proof/Machine/Operands.lean ====
section
/-! DEFINITION. Operands: the displacement sign-extender (R160 to R164) and the target-address ALU (R180 to R187). All sums are
exact sums of integers (R11, R185). -/

namespace Sys2Proof.Machine

open Sys2Proof

/-- `sint12(d)` (R12). -/
def sint12 (d : Field12) : Int := if d.getLsbD 11 then (d.toNat : Int) - 4096 else d.toNat

/-- `val(v)` as an integer (R11). -/
def val {w : Nat} (v : BitVec w) : Int := v.toNat

/-- The enable of the sign-extender (R160, D8). -/
def signEnable (fmt : Format) (qual : Qual) : Bool := decide (fmt = .f3) && decide (qual = .pcRel)

/-- The value of the sign-extender on the `disp_raw` port (R161). -/
def signExtender (enable : Bool) (dispRaw : Field20) : Int :=
  if enable && dispRaw.getLsbD 11 then val dispRaw - 4096 else val dispRaw

/-- `x = 1 ? X_OFFSET : 0` (R182). -/
def indexOffset (P : Params) (x : Bool) : Int := if x then val P.xOffset else 0

/-- `ta0` (R181). `pc` and `base` are the values of the input ports, used as given (R187). -/
def taBase (fmt : Format) (qual : Qual) (pc base disp : Int) : Int :=
  match fmt, qual with
  | .f4, _ => disp
  | .f3, .pcRel => pc + disp
  | .f3, .baseRel => base + disp
  | .f3, .direct | .f3, .absolute | .f3, .none => disp

/-- The target-address ALU (R183). `none` is `ta_valid = 0` (R180). -/
def taAlu (P : Params) (fmt : Format) (mode : Mode) (qual : Qual) (x : Bool) (pc base disp : Int) : Option Int :=
  if mode = .immediate then none else some (taBase fmt qual pc base disp + indexOffset P x)

end Sys2Proof.Machine
end

