-- ==== Sys2Proof/Machine/State.lean ====
section
/-! DEFINITION. State: the block's input ports, output ports and parameters (10_state.md R31, R32; 00_scope.md R5, R6). The
block holds no architectural state (R30, R33 to R40), so this is all there is: see INVENTORY.md, State. -/

namespace Sys2Proof.Machine

open Sys2Proof

/-- The output record of a successful decode (R201), one field for each port of R32 but `err` and `ta_valid`. `disp` and `ta`
are the exact integers of R161 and R185; Machine/Ports.lean gives their port words. `ta` is absent exactly when `ta_valid` is 0
(R180: "a model gives it none"). -/
structure Record where
  fmt : Format
  word : Word32
  opcode6 : Opcode6
  effOpcode : BitVec 8
  n : Bool
  i : Bool
  x : Bool
  b : Bool
  p : Bool
  e : Bool
  mode : Mode
  qual : Qual
  dispRaw : Field20
  dispSigned : Bool
  disp : Int
  ta : Option Int
  aKnown : Bool
  deriving DecidableEq, Repr

/-- The `ta_valid` port (R184). -/
def Record.taValid (r : Record) : Bool := r.ta.isSome

/-- The result of a decode: "either a record or an error, never both" (R265). -/
inductive DecodeResult where
  | error (err : DecodeError)
  | ok (r : Record)
  deriving DecidableEq, Repr

/-- The ports and parameters. `pc` and `base` have the width of their ports (R31, R5), so a value that cannot be presented
(D3) is no state. -/
structure State where
  params : Params
  hex : List Char
  pc : BitVec params.addrW
  base : BitVec params.addrW
  out : DecodeResult
  deriving DecidableEq, Repr

/-- Why the block stops: never. It has no constructor, because every input has a result (R203) and an error is a result on
the `err` port, "never taken as a trap" (60_exceptions.md, R266). Nothing in the model can answer with a fault, so no claim can
rest on one: a safe difference. -/
inductive Fault
  deriving DecidableEq, Repr

/-- Why the model gives an instruction no meaning. -/
inductive Refusal where
  /-- Raised by an arm of `exec` whose instruction has no meaning yet; safe, because the run ends there. No arm raises it:
  all 32 classes have their meaning. -/
  | notModelled (mnemonic : String)
  deriving DecidableEq, Repr

/-- The state the model starts from. The spec has no reset and no reset value (R290, R41). The parameters are the spec's
defaults (DESIGN CHOICE, log entry 2), the inputs are empty and zero (DESIGN CHOICE, log entry 3), and the output is what R290
then asks for at every moment: the decode of those inputs, INVALID_HEX by R101 (log entry 4). -/
def State.reset : State :=
  { params := Params.default, hex := [], pc := 0, base := 0, out := .error .invalidHex }

end Sys2Proof.Machine
end

