-- ==== Sys2Proof/Machine/Ops.lean ====
section
/-! DEFINITION. Ops: what every meaning shares: driving the output ports with a record, raising a decode error, and the caller's
own operation of presenting inputs. -/

namespace Sys2Proof.Machine

open Sys2Proof

/-- The answer type of a meaning. -/
abbrev Answer := Host.Outcome State Fault Refusal

/-- `return OK, record` (R13, R201): the output ports carry the record; the input ports and the parameters keep their values
(R30, R291). -/
def reportOk (r : Record) (s : State) : Answer := .next { s with out := .ok r }

/-- `raise <Error>` (R13). This is the block's whole exception entry (R265, R266): the only defined output is `err`, no record,
no state saved, no mode changed, no control transferred. There is no return from it (R267): the next decode is unaffected. -/
def raiseError (err : DecodeError) (s : State) : Answer := .next { s with out := .error err }

/-- The record of a decode from its fields and what the later steps computed (R200's last line). `aKnown` is the constant 0 of
R202. -/
def mkRecord (fmt : Format) (word : Word32) (f : Fields) (mode : Mode) (qual : Qual) (dispSigned : Bool) (disp : Int)
    (ta : Option Int) : Record :=
  { fmt := fmt, word := word, opcode6 := f.opcode6, effOpcode := effOpcode f.opcode6
    n := f.n, i := f.i, x := f.x, b := f.b, p := f.p, e := f.e
    mode := mode, qual := qual, dispRaw := f.dispRaw, dispSigned := dispSigned, disp := disp, ta := ta, aKnown := false }

/-- Report a Format 3 record: `word[31:24] = 0`, `word[23:0] = w` (R32, R103). -/
def reportF3 (f : Fields) (mode : Mode) (qual : Qual) (dispSigned : Bool) (disp : Int) (ta : Option Int) (s : State) : Answer :=
  reportOk (mkRecord .f3 ((packF3 f).setWidth 32) f mode qual dispSigned disp ta) s

/-- Report a Format 4 record. Its displacement is never sign-extended (R163). -/
def reportF4 (f : Fields) (mode : Mode) (qual : Qual) (disp : Int) (ta : Option Int) (s : State) : Answer :=
  reportOk (mkRecord .f4 (packF4 f) f mode qual false disp ta) s

/-- The caller presents new inputs (R31, R292). It changes the input ports alone; the outputs are those of the last evaluation
until the next step (log entry 5). -/
def State.present (s : State) (hex : List Char) (pc base : BitVec s.params.addrW) : State :=
  { s with hex := hex, pc := pc, base := base }

end Sys2Proof.Machine
end

