-- ==== Sys2Proof/Machine/Format3.lean ====
section
/-! DEFINITION. Format3: the meanings of the 16 Format 3 classes, each from its own rule of 46_cases_format3.md. Each
gives what its rule's pseudocode gives: `mode`, `qual`, `disp_signed`, `disp` and `ta`, or the error it raises. -/

namespace Sys2Proof.Machine

open Sys2Proof

/-- `F3.SIMPLE_SIC.b0p0` (R210). -/
def execF3SimpleSicB0P0 (op : Opcode6) (x e : Bool) (d : Field12) (s : State) : Answer :=
  reportF3 (f3Fields op false false x false false e d) .simpleSic .none false (val d) (some (val d + indexOffset s.params x)) s

/-- `F3.SIMPLE_SIC.b0p1` (R211). -/
def execF3SimpleSicB0P1 (op : Opcode6) (x e : Bool) (d : Field12) (s : State) : Answer :=
  reportF3 (f3Fields op false false x false true e d) .simpleSic .none false (val d) (some (val d + indexOffset s.params x)) s

/-- `F3.SIMPLE_SIC.b1p0` (R212). -/
def execF3SimpleSicB1P0 (op : Opcode6) (x e : Bool) (d : Field12) (s : State) : Answer :=
  reportF3 (f3Fields op false false x true false e d) .simpleSic .none false (val d) (some (val d + indexOffset s.params x)) s

/-- `F3.SIMPLE_SIC.b1p1` (R213). -/
def execF3SimpleSicB1P1 (op : Opcode6) (x e : Bool) (d : Field12) (s : State) : Answer :=
  reportF3 (f3Fields op false false x true true e d) .simpleSic .none false (val d) (some (val d + indexOffset s.params x)) s

/-- `F3.SIMPLE.b0p0` (R214). -/
def execF3SimpleB0P0 (op : Opcode6) (x e : Bool) (d : Field12) (s : State) : Answer :=
  reportF3 (f3Fields op true true x false false e d) .simple .direct false (val d) (some (val d + indexOffset s.params x)) s

/-- `F3.SIMPLE.b0p1` (R215). -/
def execF3SimpleB0P1 (op : Opcode6) (x e : Bool) (d : Field12) (s : State) : Answer :=
  reportF3 (f3Fields op true true x false true e d) .simple .pcRel true (sint12 d) (some (val s.pc + sint12 d + indexOffset s.params x)) s

/-- `F3.SIMPLE.b1p0` (R216). -/
def execF3SimpleB1P0 (op : Opcode6) (x e : Bool) (d : Field12) (s : State) : Answer :=
  reportF3 (f3Fields op true true x true false e d) .simple .baseRel false (val d) (some (val s.base + val d + indexOffset s.params x)) s

/-- `F3.SIMPLE.b1p1` (R217): "raise INVALID_FLAG_COMBINATION after steps 1-5. No record." -/
def execF3SimpleB1P1 (_op : Opcode6) (_x _e : Bool) (_d : Field12) (s : State) : Answer :=
  raiseError .invalidFlagCombination s

/-- `F3.IMMEDIATE.b0p0` (R218). -/
def execF3ImmediateB0P0 (op : Opcode6) (x e : Bool) (d : Field12) (s : State) : Answer :=
  reportF3 (f3Fields op false true x false false e d) .immediate .none false (val d) none s

/-- `F3.IMMEDIATE.b0p1` (R219). -/
def execF3ImmediateB0P1 (op : Opcode6) (x e : Bool) (d : Field12) (s : State) : Answer :=
  reportF3 (f3Fields op false true x false true e d) .immediate .none false (val d) none s

/-- `F3.IMMEDIATE.b1p0` (R220). -/
def execF3ImmediateB1P0 (op : Opcode6) (x e : Bool) (d : Field12) (s : State) : Answer :=
  reportF3 (f3Fields op false true x true false e d) .immediate .none false (val d) none s

/-- `F3.IMMEDIATE.b1p1` (R221). -/
def execF3ImmediateB1P1 (op : Opcode6) (x e : Bool) (d : Field12) (s : State) : Answer :=
  reportF3 (f3Fields op false true x true true e d) .immediate .none false (val d) none s

/-- `F3.INDIRECT.b0p0` (R222). -/
def execF3IndirectB0P0 (op : Opcode6) (x e : Bool) (d : Field12) (s : State) : Answer :=
  reportF3 (f3Fields op true false x false false e d) .indirect .direct false (val d) (some (val d + indexOffset s.params x)) s

/-- `F3.INDIRECT.b0p1` (R223). -/
def execF3IndirectB0P1 (op : Opcode6) (x e : Bool) (d : Field12) (s : State) : Answer :=
  reportF3 (f3Fields op true false x false true e d) .indirect .pcRel true (sint12 d) (some (val s.pc + sint12 d + indexOffset s.params x)) s

/-- `F3.INDIRECT.b1p0` (R224). -/
def execF3IndirectB1P0 (op : Opcode6) (x e : Bool) (d : Field12) (s : State) : Answer :=
  reportF3 (f3Fields op true false x true false e d) .indirect .baseRel false (val d) (some (val s.base + val d + indexOffset s.params x)) s

/-- `F3.INDIRECT.b1p1` (R225): "raise INVALID_FLAG_COMBINATION after steps 1-5. No record." -/
def execF3IndirectB1P1 (_op : Opcode6) (_x _e : Bool) (_d : Field12) (s : State) : Answer :=
  raiseError .invalidFlagCombination s

end Sys2Proof.Machine
end

