-- ==== Sys2Proof/Machine/Format4.lean ====
section
/-! DEFINITION. Format4: the meanings of the 16 Format 4 classes, each from its own rule of 47_cases_format4.md. Each
gives what its rule's pseudocode gives: `mode`, `qual`, `disp_signed`, `disp` and `ta`, or the error it raises. -/

namespace Sys2Proof.Machine

open Sys2Proof

/-- `F4.SIMPLE_DIRECT4.b0p0` (R230). -/
def execF4SimpleDirect4B0P0 (op : Opcode6) (x e : Bool) (d : Field20) (s : State) : Answer :=
  reportF4 (f4Fields op false false x false false e d) .simpleDirect4 .absolute (val d) (some (val d + indexOffset s.params x)) s

/-- `F4.SIMPLE_DIRECT4.b0p1` (R231). -/
def execF4SimpleDirect4B0P1 (op : Opcode6) (x e : Bool) (d : Field20) (s : State) : Answer :=
  reportF4 (f4Fields op false false x false true e d) .simpleDirect4 .pcRel (val d) (some (val d + indexOffset s.params x)) s

/-- `F4.SIMPLE_DIRECT4.b1p0` (R232). -/
def execF4SimpleDirect4B1P0 (op : Opcode6) (x e : Bool) (d : Field20) (s : State) : Answer :=
  reportF4 (f4Fields op false false x true false e d) .simpleDirect4 .baseRel (val d) (some (val d + indexOffset s.params x)) s

/-- `F4.SIMPLE_DIRECT4.b1p1` (R233): "raise INVALID_FLAG_COMBINATION after steps 1-5. No record." -/
def execF4SimpleDirect4B1P1 (_op : Opcode6) (_x _e : Bool) (_d : Field20) (s : State) : Answer :=
  raiseError .invalidFlagCombination s

/-- `F4.SIMPLE.b0p0` (R234). -/
def execF4SimpleB0P0 (op : Opcode6) (x e : Bool) (d : Field20) (s : State) : Answer :=
  reportF4 (f4Fields op true true x false false e d) .simple .absolute (val d) (some (val d + indexOffset s.params x)) s

/-- `F4.SIMPLE.b0p1` (R235). -/
def execF4SimpleB0P1 (op : Opcode6) (x e : Bool) (d : Field20) (s : State) : Answer :=
  reportF4 (f4Fields op true true x false true e d) .simple .pcRel (val d) (some (val d + indexOffset s.params x)) s

/-- `F4.SIMPLE.b1p0` (R236). -/
def execF4SimpleB1P0 (op : Opcode6) (x e : Bool) (d : Field20) (s : State) : Answer :=
  reportF4 (f4Fields op true true x true false e d) .simple .baseRel (val d) (some (val d + indexOffset s.params x)) s

/-- `F4.SIMPLE.b1p1` (R237): "raise INVALID_FLAG_COMBINATION after steps 1-5. No record." -/
def execF4SimpleB1P1 (_op : Opcode6) (_x _e : Bool) (_d : Field20) (s : State) : Answer :=
  raiseError .invalidFlagCombination s

/-- `F4.IMMEDIATE.b0p0` (R238). -/
def execF4ImmediateB0P0 (op : Opcode6) (x e : Bool) (d : Field20) (s : State) : Answer :=
  reportF4 (f4Fields op false true x false false e d) .immediate .none (val d) none s

/-- `F4.IMMEDIATE.b0p1` (R239). -/
def execF4ImmediateB0P1 (op : Opcode6) (x e : Bool) (d : Field20) (s : State) : Answer :=
  reportF4 (f4Fields op false true x false true e d) .immediate .none (val d) none s

/-- `F4.IMMEDIATE.b1p0` (R240). -/
def execF4ImmediateB1P0 (op : Opcode6) (x e : Bool) (d : Field20) (s : State) : Answer :=
  reportF4 (f4Fields op false true x true false e d) .immediate .none (val d) none s

/-- `F4.IMMEDIATE.b1p1` (R241). -/
def execF4ImmediateB1P1 (op : Opcode6) (x e : Bool) (d : Field20) (s : State) : Answer :=
  reportF4 (f4Fields op false true x true true e d) .immediate .none (val d) none s

/-- `F4.INDIRECT.b0p0` (R242). -/
def execF4IndirectB0P0 (op : Opcode6) (x e : Bool) (d : Field20) (s : State) : Answer :=
  reportF4 (f4Fields op true false x false false e d) .indirect .absolute (val d) (some (val d + indexOffset s.params x)) s

/-- `F4.INDIRECT.b0p1` (R243). -/
def execF4IndirectB0P1 (op : Opcode6) (x e : Bool) (d : Field20) (s : State) : Answer :=
  reportF4 (f4Fields op true false x false true e d) .indirect .pcRel (val d) (some (val d + indexOffset s.params x)) s

/-- `F4.INDIRECT.b1p0` (R244). -/
def execF4IndirectB1P0 (op : Opcode6) (x e : Bool) (d : Field20) (s : State) : Answer :=
  reportF4 (f4Fields op true false x true false e d) .indirect .baseRel (val d) (some (val d + indexOffset s.params x)) s

/-- `F4.INDIRECT.b1p1` (R245): "raise INVALID_FLAG_COMBINATION after steps 1-5. No record." -/
def execF4IndirectB1P1 (_op : Opcode6) (_x _e : Bool) (_d : Field20) (s : State) : Answer :=
  raiseError .invalidFlagCombination s

end Sys2Proof.Machine
end

