-- ==== Sys2Proof/Machine/Dispatch.lean ====
section
/-! DEFINITION. Dispatch: one arm per decode class. -/

namespace Sys2Proof.Machine

open Sys2Proof

def exec (i : Instr) (s : State) : Host.Outcome State Fault Refusal :=
  match i with
  | .f3SimpleSicB0P0 op x e d => Sys2Proof.Machine.execF3SimpleSicB0P0 op x e d s
  | .f3SimpleSicB0P1 op x e d => Sys2Proof.Machine.execF3SimpleSicB0P1 op x e d s
  | .f3SimpleSicB1P0 op x e d => Sys2Proof.Machine.execF3SimpleSicB1P0 op x e d s
  | .f3SimpleSicB1P1 op x e d => Sys2Proof.Machine.execF3SimpleSicB1P1 op x e d s
  | .f3SimpleB0P0 op x e d => Sys2Proof.Machine.execF3SimpleB0P0 op x e d s
  | .f3SimpleB0P1 op x e d => Sys2Proof.Machine.execF3SimpleB0P1 op x e d s
  | .f3SimpleB1P0 op x e d => Sys2Proof.Machine.execF3SimpleB1P0 op x e d s
  | .f3SimpleB1P1 op x e d => Sys2Proof.Machine.execF3SimpleB1P1 op x e d s
  | .f3ImmediateB0P0 op x e d => Sys2Proof.Machine.execF3ImmediateB0P0 op x e d s
  | .f3ImmediateB0P1 op x e d => Sys2Proof.Machine.execF3ImmediateB0P1 op x e d s
  | .f3ImmediateB1P0 op x e d => Sys2Proof.Machine.execF3ImmediateB1P0 op x e d s
  | .f3ImmediateB1P1 op x e d => Sys2Proof.Machine.execF3ImmediateB1P1 op x e d s
  | .f3IndirectB0P0 op x e d => Sys2Proof.Machine.execF3IndirectB0P0 op x e d s
  | .f3IndirectB0P1 op x e d => Sys2Proof.Machine.execF3IndirectB0P1 op x e d s
  | .f3IndirectB1P0 op x e d => Sys2Proof.Machine.execF3IndirectB1P0 op x e d s
  | .f3IndirectB1P1 op x e d => Sys2Proof.Machine.execF3IndirectB1P1 op x e d s
  | .f4SimpleDirect4B0P0 op x e d => Sys2Proof.Machine.execF4SimpleDirect4B0P0 op x e d s
  | .f4SimpleDirect4B0P1 op x e d => Sys2Proof.Machine.execF4SimpleDirect4B0P1 op x e d s
  | .f4SimpleDirect4B1P0 op x e d => Sys2Proof.Machine.execF4SimpleDirect4B1P0 op x e d s
  | .f4SimpleDirect4B1P1 op x e d => Sys2Proof.Machine.execF4SimpleDirect4B1P1 op x e d s
  | .f4SimpleB0P0 op x e d => Sys2Proof.Machine.execF4SimpleB0P0 op x e d s
  | .f4SimpleB0P1 op x e d => Sys2Proof.Machine.execF4SimpleB0P1 op x e d s
  | .f4SimpleB1P0 op x e d => Sys2Proof.Machine.execF4SimpleB1P0 op x e d s
  | .f4SimpleB1P1 op x e d => Sys2Proof.Machine.execF4SimpleB1P1 op x e d s
  | .f4ImmediateB0P0 op x e d => Sys2Proof.Machine.execF4ImmediateB0P0 op x e d s
  | .f4ImmediateB0P1 op x e d => Sys2Proof.Machine.execF4ImmediateB0P1 op x e d s
  | .f4ImmediateB1P0 op x e d => Sys2Proof.Machine.execF4ImmediateB1P0 op x e d s
  | .f4ImmediateB1P1 op x e d => Sys2Proof.Machine.execF4ImmediateB1P1 op x e d s
  | .f4IndirectB0P0 op x e d => Sys2Proof.Machine.execF4IndirectB0P0 op x e d s
  | .f4IndirectB0P1 op x e d => Sys2Proof.Machine.execF4IndirectB0P1 op x e d s
  | .f4IndirectB1P0 op x e d => Sys2Proof.Machine.execF4IndirectB1P0 op x e d s
  | .f4IndirectB1P1 op x e d => Sys2Proof.Machine.execF4IndirectB1P1 op x e d s

end Sys2Proof.Machine
end

