-- ==== Sys2Proof/Machine/Step.lean ====
section
/-! DEFINITION. Step: one evaluation of the block on the inputs present (R294), and how a table word is put on the `hex` port. -/

namespace Sys2Proof.Machine

open Sys2Proof

/-- One decode: the characters on `hex` are decoded to a class, whose meaning drives the outputs; or the classifier's error is
raised (R104). -/
def step (s : State) : Host.Outcome State Fault Refusal :=
  match decodeHex s.hex with
  | .instr i => exec i s
  | .rejected err => raiseError err s

/-- The block fetches nothing (R50, R59): its instruction word arrives on the `hex` port. So the place where `step` reads its
next instruction is `hex`, and this puts the digits of the word there (log entry 6). -/
def State.withFetchWord (s : State) (nbits w : Nat) : State := { s with hex := tableHex nbits w }

end Sys2Proof.Machine
end

