-- ==== Sys2Proof/Machine/Block.lean ====
section
/-! DEFINITION. Block: R200, the decode as the composition of the five sub-blocks (45_decode_result.md). It is written from R200
alone, beside the 32 class meanings, which are written from R210 to R245; that the two agree on every input is a claim. -/

namespace Sys2Proof.Machine

open Sys2Proof

/-- Steps 5 to 9 of R200 on the fields of a word. -/
def decodeFields (P : Params) (fmt : Format) (word : Word32) (f : Fields) (pc base : Int) : DecodeResult :=
  match qualMux fmt (modeMux fmt f.n f.i) f.b f.p with
  | none => .error .invalidFlagCombination
  | some qual =>
    .ok (mkRecord fmt word f (modeMux fmt f.n f.i) qual (signEnable fmt qual)
      (signExtender (signEnable fmt qual) f.dispRaw)
      (taAlu P fmt (modeMux fmt f.n f.i) qual f.x pc base (signExtender (signEnable fmt qual) f.dispRaw)))

/-- R200: `decode(hex, pc, base)`. -/
def decodeBlock (P : Params) (hex : List Char) (pc base : Int) : DecodeResult :=
  match classify hex with
  | .rejected err => .error err
  | .f3 w => decodeFields P .f3 (w.setWidth 32) (extract w) pc base
  | .f4 w => decodeFields P .f4 w (extract w) pc base

/-- What R290 says of the outputs at every moment: they are the decode of the inputs present. -/
def State.settled (s : State) : Bool := s.out == decodeBlock s.params s.hex s.pc.toNat s.base.toNat

end Sys2Proof.Machine
end

