-- ==== Sys2Proof/Machine/Ports.lean ====
section
/-! DEFINITION. Ports: the binary codes of the output ports (R32, R260, D12, D13) and the two signed ports as words (R8, R184);
beside them the words of R83's rendering table. -/

namespace Sys2Proof.Machine

open Sys2Proof

/-- The `err` port (R32, R260). -/
def DecodeResult.errPort : DecodeResult → BitVec 2
  | .ok _ => 0b00
  | .error .invalidHex => 0b01
  | .error .unsupportedFormat => 0b10
  | .error .invalidFlagCombination => 0b11

/-- The `fmt` port (R32). -/
def fmtPort : Format → BitVec 1
  | .f3 => 0
  | .f4 => 1

/-- The `mode` port (R32). -/
def modePort : Mode → BitVec 3
  | .simple => 0b000
  | .simpleSic => 0b001
  | .simpleDirect4 => 0b010
  | .immediate => 0b011
  | .indirect => 0b100

/-- The `qual` port (R32). -/
def qualPort : Qual → BitVec 3
  | .none => 0b000
  | .pcRel => 0b001
  | .baseRel => 0b010
  | .direct => 0b011
  | .absolute => 0b100

/-- The `disp` port, 21 bits, two's complement (R8, R161). -/
def Record.dispPort (r : Record) : BitVec 21 := BitVec.ofInt 21 r.disp

/-- The `ta_valid` port (R184). -/
def Record.taValidPort (r : Record) : BitVec 1 := BitVec.ofBool r.taValid

/-- The `ta` port, `TA_W` bits, two's complement, where it has a value (R184, R7). -/
def Record.taPort (P : Params) (r : Record) : Option (BitVec P.taW) := r.ta.map (BitVec.ofInt P.taW)

/-- The `a_known` port (R202). -/
def Record.aKnownPort (r : Record) : BitVec 1 := BitVec.ofBool r.aKnown

/-- KG's base text of a mode (R83; informative, the rendering itself is out of scope, R4 and N7). -/
def modeText : Mode → String
  | .simple => "Simple"
  | .simpleSic => "Simple"
  | .simpleDirect4 => "Direct addressing"
  | .immediate => "Immediate"
  | .indirect => "Indirect"

/-- KG's further qualification of a base text: SIC-direct alone has one (R83). -/
def modeSubText : Mode → Option String
  | .simpleSic => some "SIC-direct"
  | .simple | .simpleDirect4 | .immediate | .indirect => none

/-- KG's appended text of a qualifier (R83). -/
def qualText : Qual → Option String
  | .none => none
  | .pcRel => some "(PC-relative)"
  | .baseRel => some "(Base-relative)"
  | .direct => some "(Direct)"
  | .absolute => some "(Absolute)"

end Sys2Proof.Machine
end

