-- ==== Sys2Proof/Safety.lean ====
section
/-! DEFINITION. Safety: what counts as a safe run of the block, and what an output must satisfy to be one of the block's. -/

namespace Sys2Proof.Machine

open Sys2Proof

/-- R146: the pairs of `mode` and `qual` that can occur in each format. -/
def pairOccurs : Format → Mode → Qual → Bool
  | .f3, .simpleSic, q => q == .none
  | .f3, .simpleDirect4, _ => false
  | .f3, .immediate, q => q == .none
  | .f3, .simple, q => q == .pcRel || q == .baseRel || q == .direct
  | .f3, .indirect, q => q == .pcRel || q == .baseRel || q == .direct
  | .f4, .simpleSic, _ => false
  | .f4, .simpleDirect4, q => q == .pcRel || q == .baseRel || q == .absolute
  | .f4, .immediate, q => q == .none
  | .f4, .simple, q => q == .pcRel || q == .baseRel || q == .absolute
  | .f4, .indirect, q => q == .pcRel || q == .baseRel || q == .absolute

/-- The relations between the output ports that the rules promise of every record, whatever the inputs. They rest on the spec's
own decisions D4 and D5 (the target address's bounds), D7, D9 and D10 (the pairs, `ta_valid`), D8 (the enable), D15 (the word port)
and D18 (`a_known`), and on the model's form of the ports: log entries 9 and 10. -/
structure LegalRecord (P : Params) (r : Record) : Prop where
  /-- R32: an F3 word is right-aligned. -/
  wordAligned : r.fmt = .f3 → r.word.toNat < 2 ^ 24
  /-- R123: an F3 field is zero-extended. -/
  fieldAligned : r.fmt = .f3 → r.dispRaw.toNat < 2 ^ 12
  /-- R121. -/
  opcodeMasked : r.effOpcode.toNat = r.opcode6.toNat - r.opcode6.toNat % 4
  /-- R146. -/
  pair : pairOccurs r.fmt r.mode r.qual = true
  /-- R160. -/
  signedIff : r.dispSigned = true ↔ r.fmt = .f3 ∧ r.qual = .pcRel
  /-- R162. -/
  signedRange : r.dispSigned = true → -2048 ≤ r.disp ∧ r.disp ≤ 2047
  /-- R161. -/
  unsignedValue : r.dispSigned = false → r.disp = r.dispRaw.toNat
  /-- R180, R184. -/
  taValidIff : r.taValid = true ↔ r.mode ≠ .immediate
  /-- R186. -/
  taRange : ∀ t, r.ta = some t → -2048 ≤ t ∧ t < 2 ^ (P.boundW + 2)
  /-- R202. -/
  aUnknown : r.aKnown = false

/-- A state whose output, where it is a record, is a legal one. -/
def State.LegalOutput (s : State) : Prop := ∀ r, s.out = .ok r → LegalRecord s.params r

/-- A run that neither faults nor is refused, however long (R266: no error is "fatal to the host process"). -/
def State.RunsOn (s : State) : Prop := ∀ k, ∃ t, Host.Core.run Sys2Proof.core k s = .next t

end Sys2Proof.Machine
end

