-- ==== Sys2Proof/WellFormed.lean ====
section
/-! DEFINITION. WellFormed: what the spec calls well-formed. Two notions, which the spec keeps apart:
* an accepted INPUT (30_encoding.md R82): a non-empty sequence of hex digits of length 6 or 8. The block checks this one, and
  rejects the rest by name;
* a well-formed ENCODING in KG's sense (R77, R79): e agrees with the format, and (b, p) is not (1, 1). The block does NOT check
  e, and it answers (1, 1) as R143 to R145 say, so nothing in the model assumes this notion.
Every term of `Instr` can be encoded: the widths of its operands are in its type. -/

namespace Sys2Proof

/-- R82: the one operand syntax the block accepts. -/
def inputWellFormed (cs : List Char) : Bool :=
  !cs.isEmpty && cs.all isHexDigit && (cs.length == 6 || cs.length == 8)

/-- KG §3: "e=0 for Format3, e=1 for Format4"; an invariant the block never checks (R77, D6, C4). -/
def Instr.eAgrees (i : Instr) : Bool := i.fields.e == (i.fmt == .f4)

/-- KG §4.1 step 6: (b, p) = (1, 1) is absent from well-formed encodings (C5). -/
def Instr.pairLegal (i : Instr) : Bool := !(i.fields.b && i.fields.p)

/-- A well-formed encoding in KG's sense. -/
def Instr.wellFormed (i : Instr) : Bool := i.eAgrees && i.pairLegal

end Sys2Proof
end

