-- ==== Sys2Proof/Certificates/Slice0/Obligations.lean ====
section
/-! DEFINITION. Obligations: the statements for the provers. Every one holds for all parameters `ADDR_W` and `X_OFFSET`
(R5, R6), for all values on the input ports, and whatever the output ports carried before, unless it says otherwise. -/

namespace Sys2Proof.Claims

open Sys2Proof Sys2Proof.Machine

/-! ## The words the statements use

They are written with natural numbers and integers, not with the model's own operations, so that a slip in one of those
operations makes a statement false. -/

/-- R12's `sint12`, in the words of R162: from 0x800 on, the raw value less 4096. -/
def signed12 (d : Field12) : Int := if 0x800 ≤ d.toNat then (d.toNat : Int) - 4096 else d.toNat

/-- `(x ? X_OFFSET : 0)` (R182). -/
def indexed (s : State) (x : Bool) : Int := if x then (s.params.xOffset.toNat : Int) else 0

/-- A bit as a number. -/
def bit (b : Bool) : Nat := if b then 1 else 0

/-- The record of a Format 3 word: the word by the place values of R71, the fields as they stand, `eff_opcode` as the opcode less
its two low bits (R121), `a_known` 0 (R202). The word port's width and
`a_known` are the spec's own decisions D15 and D18. -/
def f3Record (op : Opcode6) (n i x b p e : Bool) (d : Field12) (mode : Mode) (qual : Qual) (signed : Bool) (disp : Int)
    (ta : Option Int) : Record :=
  { fmt := .f3
    word := BitVec.ofNat 32 (op.toNat * 2 ^ 18 + bit n * 2 ^ 17 + bit i * 2 ^ 16 + bit x * 2 ^ 15 + bit b * 2 ^ 14
      + bit p * 2 ^ 13 + bit e * 2 ^ 12 + d.toNat)
    opcode6 := op, effOpcode := BitVec.ofNat 8 (op.toNat / 4 * 4)
    n := n, i := i, x := x, b := b, p := p, e := e
    mode := mode, qual := qual, dispRaw := BitVec.ofNat 20 d.toNat, dispSigned := signed, disp := disp, ta := ta
    aKnown := false }

/-- The record of a Format 4 word: the same, by the place values of R72; never sign-extended (R163). -/
def f4Record (op : Opcode6) (n i x b p e : Bool) (d : Field20) (mode : Mode) (qual : Qual) (disp : Int) (ta : Option Int) : Record :=
  { fmt := .f4
    word := BitVec.ofNat 32 (op.toNat * 2 ^ 26 + bit n * 2 ^ 25 + bit i * 2 ^ 24 + bit x * 2 ^ 23 + bit b * 2 ^ 22
      + bit p * 2 ^ 21 + bit e * 2 ^ 20 + d.toNat)
    opcode6 := op, effOpcode := BitVec.ofNat 8 (op.toNat / 4 * 4)
    n := n, i := i, x := x, b := b, p := p, e := e
    mode := mode, qual := qual, dispRaw := d, dispSigned := false, disp := disp, ta := ta, aKnown := false }

/-- What the rule of a Format 3 class says. First: the instruction, with any operands in any state, COMPLETES in the state whose
output is `res` and whose other fields are unchanged. Second: a step on any input of 6 hex digits whose word matches the class
(`word & 0x36000 = m`) does the same, with the operands read from the word where R71 puts them. -/
def ClassF3 (m : Word24) (mk : Opcode6 → Bool → Bool → Field12 → Instr)
    (res : Opcode6 → Bool → Bool → Field12 → State → DecodeResult) : Prop :=
  (∀ op x e d s, exec (mk op x e d) s = .next { s with out := res op x e d s }) ∧
  ∀ (s : State) (w : Word24), classify s.hex = .f3 w → w &&& 0x36000 = m →
    step s = .next { s with out := res (w.extractLsb' 18 6) (w.getLsbD 15) (w.getLsbD 12) (w.extractLsb' 0 12) s }

/-- What the rule of a Format 4 class says, likewise: 8 hex digits, `word & 0x3600000 = m`, operands where R72 puts them. -/
def ClassF4 (m : Word32) (mk : Opcode6 → Bool → Bool → Field20 → Instr)
    (res : Opcode6 → Bool → Bool → Field20 → State → DecodeResult) : Prop :=
  (∀ op x e d s, exec (mk op x e d) s = .next { s with out := res op x e d s }) ∧
  ∀ (s : State) (w : Word32), classify s.hex = .f4 w → w &&& 0x3600000 = m →
    step s = .next { s with out := res (w.extractLsb' 26 6) (w.getLsbD 23) (w.getLsbD 20) (w.extractLsb' 0 20) s }

/-- A step on `s` answers the record `r`, and changes nothing but the outputs. -/
def Reports (s : State) (r : Record) : Prop := step s = .next { s with out := .ok r }

/-- The characters R100 lists, with their values. -/
def hexDigits : List (Char × Nat) := "0123456789ABCDEF".toList.zipIdx ++ "abcdef".toList.zipIdx 10

/-- R261: empty, or a character that is no hex digit. -/
def BadHex (cs : List Char) : Prop := cs = [] ∨ ∃ c ∈ cs, ∀ v, (c, v) ∉ hexDigits

/-- R262: the count is neither 6 nor 8. -/
def BadLength (cs : List Char) : Prop := cs.length ≠ 6 ∧ cs.length ≠ 8

/-- R263: (b, p) = (1, 1) in a qualified mode, by the bits of the word's value. F3: n = 1 (SIMPLE, INDIRECT). F4: every (n, i) but
(0, 1) (SIMPLE_DIRECT4, SIMPLE, INDIRECT). -/
def BadFlags (cs : List Char) : Prop :=
  (cs.length = 6 ∧ (hexValue cs).testBit 17 ∧ (hexValue cs).testBit 14 ∧ (hexValue cs).testBit 13) ∨
  (cs.length = 8 ∧ ((hexValue cs).testBit 25 ∨ ¬ (hexValue cs).testBit 24) ∧ (hexValue cs).testBit 22 ∧ (hexValue cs).testBit 21)

/-- The output with e, and e's bit of the word, the other way. -/
def flipE (mask : Word32) : DecodeResult → DecodeResult
  | .error err => .error err
  | .ok r => .ok { r with e := !r.e, word := r.word ^^^ mask }

/-- The output with x, and x's bit of the word, set, and the offset added to a target address where there is one. -/
def setX (offset : Int) (mask : Word32) : DecodeResult → DecodeResult
  | .error err => .error err
  | .ok r => .ok { r with x := true, word := r.word ||| mask, ta := r.ta.map (· + offset) }

/-- The output with another opcode, which enters `opcode6`, `eff_opcode` and the word. -/
def withOpcode (op : Opcode6) (word : Word32) : DecodeResult → DecodeResult
  | .error err => .error err
  | .ok r => .ok { r with opcode6 := op, effOpcode := BitVec.ofNat 8 (op.toNat / 4 * 4), word := word }

/-- A Format 3 PC-relative record: the one that reads `pc` (R205). -/
def ReadsPc : DecodeResult → Prop
  | .error _ => False
  | .ok r => r.fmt = .f3 ∧ r.qual = .pcRel

/-- A Format 3 base-relative record: the one that reads `base` (R205). -/
def ReadsBase : DecodeResult → Prop
  | .error _ => False
  | .ok r => r.fmt = .f3 ∧ r.qual = .baseRel

end Sys2Proof.Claims

open Sys2Proof Sys2Proof.Machine Sys2Proof.Claims

/-! ## The whole decode -/

/-- R200: for every input the step's outputs are exactly those of the decode function, whose text is `decodeBlock`; the step goes
through the 32 class meanings, the function through the five sub-blocks. The function's steps rest on the spec's own decisions D2,
D6 to D10, D14, D15, D17 and D18 (92_eei_decisions.md). -/
def Obligations.StepIsDecodeBlock : Prop :=
  ∀ s : State, step s = .next { s with out := decodeBlock s.params s.hex s.pc.toNat s.base.toNat }

/-- R71, R72, R76: decoding the encoder's characters of any instruction gives the instruction back, with every operand at every
value; no well-formedness is assumed. That e is free in either format is the spec's own decision D6. -/
def Obligations.DecodeEncodeRoundTrip : Prop := ∀ i : Instr, decodeHex (encode i) = .instr i

/-- R102, R103: encoding what the decoder read gives the input back, its digits in upper case: no accepted input has a second
meaning. The digit set and that the length gives the format are the spec's own decisions D2 and D6. -/
def Obligations.EncodeDecodeNormalises : Prop :=
  ∀ (cs : List Char) (i : Instr), decodeHex cs = .instr i → encode i = normalise cs

/-- R32, R121, R123, R146, R160 to R162, R180, R186, R202: from any state whatever, a step leaves a legal output (so it keeps
one). What is legal rests on the spec's own decisions D4 and D5 (the target address's bounds, R186), D7, D9 and D10 (the pairs of
R146, and `ta_valid`, R180), D8 (the enable, R160), D15 (the word port, R32) and D18 (`a_known`, R202), and on the model's form of
the ports: log entries 9 and 10. -/
def Obligations.StepEstablishesLegalOutput : Prop :=
  ∀ s t : State, step s = .next t → t.LegalOutput

/-- The reset state has a legal output, and it is the decode of the inputs present (R290). The inputs and parameters it starts from
are the model's own choice (log entries 2, 3 and 4); that the empty sequence is INVALID_HEX is the spec's own decision D2. -/
def Obligations.ResetIsLegalAndSettled : Prop :=
  State.reset.LegalOutput ∧ State.reset.settled = true

/-- R30, R290: from any state, after a step the outputs are the decode of the inputs present. That the block is combinational is
the spec's own decision D1, and the decode function's steps rest on D2, D6 to D10, D14, D15, D17 and D18. That a step is one evaluation
is the model's choice (log entry 5). -/
def Obligations.StepSettlesOutputs : Prop := ∀ s t : State, step s = .next t → t.settled = true

/-- A step runs the decoded instruction, and raises the classifier's error where there is none. Nothing is added around `exec`: the
block has no program counter to move (R34; the spec's own decision D16). -/
def Obligations.StepRunsDecodedInstruction : Prop :=
  (∀ (s : State) (i : Instr), decodeHex s.hex = .instr i → step s = exec i s) ∧
  ∀ (s : State) (err : DecodeError), decodeHex s.hex = .rejected err → step s = .next { s with out := .error err }

/-- Every instruction, in every state, completes, and writes nothing but the outputs: the parameters (R291), `pc` (R34), `base`
(R35) and `hex` are unchanged; there is no register, flag or memory to change (R33, R36, R50). -/
def Obligations.ExecWritesOnlyOutputs : Prop :=
  ∀ (i : Instr) (s : State), ∃ o, exec i s = .next { s with out := o }

/-- R203, R266: from any state, a run of any length neither faults nor is refused. -/
def Obligations.EveryRunGoesOn : Prop := ∀ s : State, s.RunsOn

/-- Words of the spec's own examples, read by the decoder: 032600 (R104), 1B2003 (R124), 300812 (R210), 32C812 (R224), 316812 (R221),
3010A812 (R230), 33D0A812 (R236), 31F0A812 (R241), 3270A812 (R245). -/
def Obligations.SpecWordsDecode : Prop :=
  decodeHex "032600".toList = .instr (.f3SimpleB0P1 0x00 false false 0x600) ∧
  decodeHex "1B2003".toList = .instr (.f3SimpleB0P1 0x06 false false 0x003) ∧
  decodeHex "300812".toList = .instr (.f3SimpleSicB0P0 0x0C false false 0x812) ∧
  decodeHex "32C812".toList = .instr (.f3IndirectB1P0 0x0C true false 0x812) ∧
  decodeHex "316812".toList = .instr (.f3ImmediateB1P1 0x0C false false 0x812) ∧
  decodeHex "3010A812".toList = .instr (.f4SimpleDirect4B0P0 0x0C false true 0x0A812) ∧
  decodeHex "33D0A812".toList = .instr (.f4SimpleB1P0 0x0C true true 0x0A812) ∧
  decodeHex "31F0A812".toList = .instr (.f4ImmediateB1P1 0x0C true true 0x0A812) ∧
  decodeHex "3270A812".toList = .instr (.f4IndirectB1P1 0x0C false true 0x0A812)

/-! ## The 32 decode classes -/

/-- R210 to R213: The classes `F3.SIMPLE_SIC.b0p0`, `F3.SIMPLE_SIC.b0p1`, `F3.SIMPLE_SIC.b1p0`, `F3.SIMPLE_SIC.b1p1`: by the
instruction and by every input word that matches the class, the record of the rule, and nothing else changed. The rules rest on
the spec's own decisions D7 and D17 (92_eei_decisions.md). -/
def Obligations.F3SimpleSicClasses : Prop :=
  (ClassF3 0x0 .f3SimpleSicB0P0 fun op x e d s =>
    .ok (f3Record op false false x false false e d .simpleSic .none false d.toNat (some (d.toNat + indexed s x)))) ∧
  (ClassF3 0x2000 .f3SimpleSicB0P1 fun op x e d s =>
    .ok (f3Record op false false x false true e d .simpleSic .none false d.toNat (some (d.toNat + indexed s x)))) ∧
  (ClassF3 0x4000 .f3SimpleSicB1P0 fun op x e d s =>
    .ok (f3Record op false false x true false e d .simpleSic .none false d.toNat (some (d.toNat + indexed s x)))) ∧
  (ClassF3 0x6000 .f3SimpleSicB1P1 fun op x e d s =>
    .ok (f3Record op false false x true true e d .simpleSic .none false d.toNat (some (d.toNat + indexed s x))))

/-- R214 to R216: The classes `F3.SIMPLE.b0p0`, `F3.SIMPLE.b0p1`, `F3.SIMPLE.b1p0`: by the instruction and by every input word
that matches the class, the record of the rule, and nothing else changed. The rules rest on the spec's own decisions D17
(92_eei_decisions.md). -/
def Obligations.F3SimpleClasses : Prop :=
  (ClassF3 0x30000 .f3SimpleB0P0 fun op x e d s =>
    .ok (f3Record op true true x false false e d .simple .direct false d.toNat (some (d.toNat + indexed s x)))) ∧
  (ClassF3 0x32000 .f3SimpleB0P1 fun op x e d s =>
    .ok (f3Record op true true x false true e d .simple .pcRel true (signed12 d) (some (s.pc.toNat + signed12 d + indexed s x)))) ∧
  (ClassF3 0x34000 .f3SimpleB1P0 fun op x e d s =>
    .ok (f3Record op true true x true false e d .simple .baseRel false d.toNat (some (s.base.toNat + d.toNat + indexed s x))))

/-- R217, R225, R237, R245: Four classes whose rule is "raise INVALID_FLAG_COMBINATION after steps 1-5. No record.": their own
effect is that error on `err`, whatever x, e, opcode6 and the field. -/
def Obligations.FlagCombinationErrors : Prop :=
  (ClassF3 0x36000 .f3SimpleB1P1 fun _ _ _ _ _ => .error .invalidFlagCombination) ∧
  (ClassF3 0x26000 .f3IndirectB1P1 fun _ _ _ _ _ => .error .invalidFlagCombination) ∧
  (ClassF4 0x3600000 .f4SimpleB1P1 fun _ _ _ _ _ => .error .invalidFlagCombination) ∧
  (ClassF4 0x2600000 .f4IndirectB1P1 fun _ _ _ _ _ => .error .invalidFlagCombination)

/-- R218 to R221: The classes `F3.IMMEDIATE.b0p0`, `F3.IMMEDIATE.b0p1`, `F3.IMMEDIATE.b1p0`, `F3.IMMEDIATE.b1p1`: by the
instruction and by every input word that matches the class, the record of the rule, and nothing else changed. The rules rest on
the spec's own decisions D8 and D10 (92_eei_decisions.md). -/
def Obligations.F3ImmediateClasses : Prop :=
  (ClassF3 0x10000 .f3ImmediateB0P0 fun op x e d _ =>
    .ok (f3Record op false true x false false e d .immediate .none false d.toNat none)) ∧
  (ClassF3 0x12000 .f3ImmediateB0P1 fun op x e d _ =>
    .ok (f3Record op false true x false true e d .immediate .none false d.toNat none)) ∧
  (ClassF3 0x14000 .f3ImmediateB1P0 fun op x e d _ =>
    .ok (f3Record op false true x true false e d .immediate .none false d.toNat none)) ∧
  (ClassF3 0x16000 .f3ImmediateB1P1 fun op x e d _ =>
    .ok (f3Record op false true x true true e d .immediate .none false d.toNat none))

/-- R222 to R224: The classes `F3.INDIRECT.b0p0`, `F3.INDIRECT.b0p1`, `F3.INDIRECT.b1p0`: by the instruction and by every input
word that matches the class, the record of the rule, and nothing else changed. The rules rest on the spec's own decisions D17
(92_eei_decisions.md). -/
def Obligations.F3IndirectClasses : Prop :=
  (ClassF3 0x20000 .f3IndirectB0P0 fun op x e d s =>
    .ok (f3Record op true false x false false e d .indirect .direct false d.toNat (some (d.toNat + indexed s x)))) ∧
  (ClassF3 0x22000 .f3IndirectB0P1 fun op x e d s =>
    .ok (f3Record op true false x false true e d .indirect .pcRel true (signed12 d) (some (s.pc.toNat + signed12 d + indexed s x)))) ∧
  (ClassF3 0x24000 .f3IndirectB1P0 fun op x e d s =>
    .ok (f3Record op true false x true false e d .indirect .baseRel false d.toNat (some (s.base.toNat + d.toNat + indexed s x))))

/-- R230 to R233: The classes `F4.SIMPLE_DIRECT4.b0p0`, `F4.SIMPLE_DIRECT4.b0p1`, `F4.SIMPLE_DIRECT4.b1p0`,
`F4.SIMPLE_DIRECT4.b1p1`: by the instruction and by every input word that matches the class, the record of the rule (for b1p1
the error), and nothing else changed. The rules rest on the spec's own decisions D9 and D17 (92_eei_decisions.md). -/
def Obligations.F4SimpleDirect4Classes : Prop :=
  (ClassF4 0x0 .f4SimpleDirect4B0P0 fun op x e d s =>
    .ok (f4Record op false false x false false e d .simpleDirect4 .absolute d.toNat (some (d.toNat + indexed s x)))) ∧
  (ClassF4 0x200000 .f4SimpleDirect4B0P1 fun op x e d s =>
    .ok (f4Record op false false x false true e d .simpleDirect4 .pcRel d.toNat (some (d.toNat + indexed s x)))) ∧
  (ClassF4 0x400000 .f4SimpleDirect4B1P0 fun op x e d s =>
    .ok (f4Record op false false x true false e d .simpleDirect4 .baseRel d.toNat (some (d.toNat + indexed s x)))) ∧
  (ClassF4 0x600000 .f4SimpleDirect4B1P1 fun _ _ _ _ _ => .error .invalidFlagCombination)

/-- R234 to R236: The classes `F4.SIMPLE.b0p0`, `F4.SIMPLE.b0p1`, `F4.SIMPLE.b1p0`: by the instruction and by every input word
that matches the class, the record of the rule, and nothing else changed. The rules rest on the spec's own decisions D17
(92_eei_decisions.md). -/
def Obligations.F4SimpleClasses : Prop :=
  (ClassF4 0x3000000 .f4SimpleB0P0 fun op x e d s =>
    .ok (f4Record op true true x false false e d .simple .absolute d.toNat (some (d.toNat + indexed s x)))) ∧
  (ClassF4 0x3200000 .f4SimpleB0P1 fun op x e d s =>
    .ok (f4Record op true true x false true e d .simple .pcRel d.toNat (some (d.toNat + indexed s x)))) ∧
  (ClassF4 0x3400000 .f4SimpleB1P0 fun op x e d s =>
    .ok (f4Record op true true x true false e d .simple .baseRel d.toNat (some (d.toNat + indexed s x))))

/-- R238 to R241: The classes `F4.IMMEDIATE.b0p0`, `F4.IMMEDIATE.b0p1`, `F4.IMMEDIATE.b1p0`, `F4.IMMEDIATE.b1p1`: by the
instruction and by every input word that matches the class, the record of the rule, and nothing else changed. The rules rest on
the spec's own decisions D10 (92_eei_decisions.md). -/
def Obligations.F4ImmediateClasses : Prop :=
  (ClassF4 0x1000000 .f4ImmediateB0P0 fun op x e d _ =>
    .ok (f4Record op false true x false false e d .immediate .none d.toNat none)) ∧
  (ClassF4 0x1200000 .f4ImmediateB0P1 fun op x e d _ =>
    .ok (f4Record op false true x false true e d .immediate .none d.toNat none)) ∧
  (ClassF4 0x1400000 .f4ImmediateB1P0 fun op x e d _ =>
    .ok (f4Record op false true x true false e d .immediate .none d.toNat none)) ∧
  (ClassF4 0x1600000 .f4ImmediateB1P1 fun op x e d _ =>
    .ok (f4Record op false true x true true e d .immediate .none d.toNat none))

/-- R242 to R244: The classes `F4.INDIRECT.b0p0`, `F4.INDIRECT.b0p1`, `F4.INDIRECT.b1p0`: by the instruction and by every input
word that matches the class, the record of the rule, and nothing else changed. The rules rest on the spec's own decisions D17
(92_eei_decisions.md). -/
def Obligations.F4IndirectClasses : Prop :=
  (ClassF4 0x2000000 .f4IndirectB0P0 fun op x e d s =>
    .ok (f4Record op true false x false false e d .indirect .absolute d.toNat (some (d.toNat + indexed s x)))) ∧
  (ClassF4 0x2200000 .f4IndirectB0P1 fun op x e d s =>
    .ok (f4Record op true false x false true e d .indirect .pcRel d.toNat (some (d.toNat + indexed s x)))) ∧
  (ClassF4 0x2400000 .f4IndirectB1P0 fun op x e d s =>
    .ok (f4Record op true false x true false e d .indirect .baseRel d.toNat (some (d.toNat + indexed s x))))

/-! ## The format classifier and the errors -/

/-- R100: the digits are exactly the 22 characters listed, each with its value (the spec's own decision D2). -/
def Obligations.HexDigitSet : Prop := ∀ (c : Char) (v : Nat), hexDigit? c = some v ↔ (c, v) ∈ hexDigits

/-- R51: of a valid sequence, the value is the sum of the digits at their places (R103), and the k-th digit is the k-th nibble from the
top; 6 and 8 digits give the word of that value, 24 and 32 bits wide. -/
def Obligations.WordAssembly : Prop :=
  ∀ cs : List Char, hexOk cs = true →
    hexValue cs = ((List.range cs.length).map fun k => digitValue (cs.getD k '0') * 16 ^ (cs.length - 1 - k)).sum ∧
    (∀ k < cs.length, hexValue cs / 2 ^ (4 * cs.length - 4 - 4 * k) % 16 = digitValue (cs.getD k '0')) ∧
    (cs.length = 6 → ∃ w, classify cs = .f3 w ∧ w.toNat = hexValue cs) ∧
    (cs.length = 8 → ∃ w, classify cs = .f4 w ∧ w.toNat = hexValue cs)

/-- R103, R70: the `word` port of every record carries the value of the digits, an F3 word right-aligned, and the format is the one
the length gives. That the port has one width is the spec's own decision D15, that the length alone gives the format its D6. -/
def Obligations.WordPortAndFormat : Prop :=
  ∀ (s : State) (r : Record), Reports s r →
    r.word.toNat = hexValue s.hex ∧ (r.fmt = .f3 ↔ s.hex.length = 6) ∧ (r.fmt = .f4 ↔ s.hex.length = 8) ∧
    (r.fmt = .f3 → r.word.extractLsb' 24 8 = 0)

/-- R105, R262: a step raises UNSUPPORTED_FORMAT, with no record and nothing else changed, exactly when every character is a hex
digit (and there is one) and the count is neither 6 nor 8. -/
def Obligations.UnsupportedFormatExactly : Prop :=
  ∀ s : State, step s = .next { s with out := .error .unsupportedFormat } ↔
    hexOk s.hex = true ∧ s.hex.length ≠ 6 ∧ s.hex.length ≠ 8

/-- R260 to R265, with R101, R105, R106 and R143: the checks run in KG's order and the first that fails decides. In every state
the step completes with INVALID_HEX exactly on a bad sequence whatever its length, else UNSUPPORTED_FORMAT exactly on a bad count,
else INVALID_FLAG_COMBINATION exactly on bad flags, else OK with a record; and nothing but the outputs changes. What a hex digit is, and
that the empty sequence is bad, is the spec's own decision D2; that F4 (0,0) words can have bad flags is its D9, that SIMPLE_SIC and IMMEDIATE words
cannot is its D7 and D10; the codes are D12. -/
def Obligations.ErrorPriority : Prop :=
  ∀ s : State, ∃ o, step s = .next { s with out := o } ∧
    (BadHex s.hex → o = .error .invalidHex ∧ o.errPort = 0b01) ∧
    (¬ BadHex s.hex → BadLength s.hex → o = .error .unsupportedFormat ∧ o.errPort = 0b10) ∧
    (¬ BadHex s.hex → ¬ BadLength s.hex → BadFlags s.hex → o = .error .invalidFlagCombination ∧ o.errPort = 0b11) ∧
    (¬ BadHex s.hex → ¬ BadLength s.hex → ¬ BadFlags s.hex → ∃ r, o = .ok r ∧ o.errPort = 0b00)

/-- R107: a realisation that has only the three signals classifies every sequence as R104 does (the
reduction is the spec's own decision D19). -/
def Obligations.BoundedFrontEndIsExact : Prop := ∀ cs : List Char, classifyFrontEnd (frontEnd cs) = classify cs

/-! ## The extractor -/

/-- R71, R72: the fields of a word of either format: the opcode is the top 6 bits, the flags n, i, x, b, p, e are the
bits 6 to 11 counted from the most significant, and the rest is the displacement or address field, unsigned. -/
def Obligations.ExtractorSlices : Prop :=
  (∀ w : Word24, (extract w).opcode6.toNat = w.toNat / 2 ^ 18 ∧
    [(extract w).n, (extract w).i, (extract w).x, (extract w).b, (extract w).p, (extract w).e]
      = (List.range 6).map (fun k => w.getMsbD (6 + k)) ∧
    (extract w).dispRaw.toNat = w.toNat % 2 ^ 12) ∧
  ∀ w : Word32, (extract w).opcode6.toNat = w.toNat / 2 ^ 26 ∧
    [(extract w).n, (extract w).i, (extract w).x, (extract w).b, (extract w).p, (extract w).e]
      = (List.range 6).map (fun k => w.getMsbD (6 + k)) ∧
    (extract w).dispRaw.toNat = w.toNat % 2 ^ 20

/-- R121: in every record the effective opcode is the opcode AND 0xFC, which clears its two low bits; so it is a multiple of 4, at
most 0x3C, with the top two bits 0. -/
def Obligations.EffectiveOpcodeLaw : Prop :=
  ∀ (s : State) (r : Record), Reports s r →
    r.effOpcode = r.opcode6.setWidth 8 &&& 0xFC ∧ r.effOpcode.toNat = r.opcode6.toNat - r.opcode6.toNat % 4 ∧
    r.effOpcode.toNat % 4 = 0 ∧ r.effOpcode.toNat ≤ 0x3C ∧ r.effOpcode.extractLsb' 6 2 = 0

/-- R76, R78: two words of one format that differ in the opcode alone are decoded alike: the same error, or records that differ in
`opcode6`, `eff_opcode` (R121) and the `word` port (R103) only. No opcode is refused. That the one `word` port carries an F3 word
zero-extended is the spec's own decision D15 (log entry 10). -/
def Obligations.OpcodeSelectsNothing : Prop :=
  (∀ (s : State) (hex' : List Char) (w w' : Word24), classify s.hex = .f3 w → classify hex' = .f3 w' →
    w.toNat % 2 ^ 18 = w'.toNat % 2 ^ 18 →
    ∃ o, step s = .next { s with out := o } ∧
      step { s with hex := hex' } =
        .next { s with hex := hex', out := withOpcode (w'.extractLsb' 18 6) (w'.setWidth 32) o }) ∧
  ∀ (s : State) (hex' : List Char) (w w' : Word32), classify s.hex = .f4 w → classify hex' = .f4 w' →
    w.toNat % 2 ^ 26 = w'.toNat % 2 ^ 26 →
    ∃ o, step s = .next { s with out := o } ∧
      step { s with hex := hex' } = .next { s with hex := hex', out := withOpcode (w'.extractLsb' 26 6) w' o }

/-! ## The multiplexers -/

/-- R140: in every record the mode is the one the table gives (n, i) and the format. -/
def Obligations.ModeTable : Prop :=
  ∀ (s : State) (r : Record), Reports s r →
    (r.n = false → r.i = false → r.fmt = .f3 → r.mode = .simpleSic) ∧
    (r.n = false → r.i = false → r.fmt = .f4 → r.mode = .simpleDirect4) ∧
    (r.n = true → r.i = true → r.mode = .simple) ∧
    (r.n = false → r.i = true → r.mode = .immediate) ∧
    (r.n = true → r.i = false → r.mode = .indirect)

/-- R141 to R145: in every record the qualifier is NONE for SIMPLE_SIC and IMMEDIATE, and for the other modes the one the table gives
(b, p) and the format; no such record has (b, p) = (1, 1). Which modes are qualified rests on the spec's own decisions D7, D9 and D10. -/
def Obligations.QualifierTable : Prop :=
  ∀ (s : State) (r : Record), Reports s r →
    ((r.mode = .simpleSic ∨ r.mode = .immediate) → r.qual = .none) ∧
    ((r.mode = .simple ∨ r.mode = .simpleDirect4 ∨ r.mode = .indirect) →
      (r.b = false → r.p = true → r.qual = .pcRel) ∧
      (r.b = true → r.p = false → r.qual = .baseRel) ∧
      (r.b = false → r.p = false → r.fmt = .f3 → r.qual = .direct) ∧
      (r.b = false → r.p = false → r.fmt = .f4 → r.qual = .absolute) ∧
      ¬ (r.b = true ∧ r.p = true))

/-- R146: the pairs of mode and qualifier a record can carry are exactly the listed ones: no other occurs, and each of them does.
Which modes are qualified rests on the spec's own decisions D7, D9 and D10. -/
def Obligations.ModeQualifierPairs : Prop :=
  (∀ (s : State) (r : Record), Reports s r → pairOccurs r.fmt r.mode r.qual = true) ∧
  ∀ (fmt : Format) (m : Mode) (q : Qual), pairOccurs fmt m q = true →
    ∃ (s : State) (r : Record), Reports s r ∧ r.fmt = fmt ∧ r.mode = m ∧ r.qual = q

/-- R77: a word with the e bit the other way, of the same length, is decoded alike: the same error, or the same record but for `e` and
its bit of the word (the spec's own decision D6). -/
def Obligations.EBitSelectsNothing : Prop :=
  (∀ (s : State) (hex' : List Char) (w : Word24), classify s.hex = .f3 w → classify hex' = .f3 (w ^^^ 0x1000) →
    ∃ o, step s = .next { s with out := o } ∧
      step { s with hex := hex' } = .next { s with hex := hex', out := flipE 0x1000 o }) ∧
  ∀ (s : State) (hex' : List Char) (w : Word32), classify s.hex = .f4 w → classify hex' = .f4 (w ^^^ 0x100000) →
    ∃ o, step s = .next { s with out := o } ∧
      step { s with hex := hex' } = .next { s with hex := hex', out := flipE 0x100000 o }

/-! ## The sign-extender -/

/-- R160: in every record the extender is enabled exactly for F3 with PC_REL, which is F3 with (b, p) = (0, 1) and n = 1. That IMMEDIATE
and SIMPLE_SIC words with (b, p) = (0, 1) are not extended is the spec's own decision D8. -/
def Obligations.SignExtenderEnable : Prop :=
  ∀ (s : State) (r : Record), Reports s r →
    (r.dispSigned = true ↔ r.fmt = .f3 ∧ r.qual = .pcRel) ∧
    (r.dispSigned = true ↔ r.fmt = .f3 ∧ r.b = false ∧ r.p = true ∧ r.n = true)

/-- R161, R162: enabled, the raw value from 0x800 on loses 4096 and a lower one stays, so the result lies in [-2048, 2047]; disabled, the
raw value stays. The 21-bit port is the 12-bit field sign-extended, or the raw port zero-extended. -/
def Obligations.SignExtensionLaw : Prop :=
  ∀ (s : State) (r : Record), Reports s r →
    (r.dispSigned = true → 0x800 ≤ r.dispRaw.toNat → r.disp = r.dispRaw.toNat - 4096) ∧
    (r.dispSigned = true → r.dispRaw.toNat < 0x800 → r.disp = r.dispRaw.toNat) ∧
    (r.dispSigned = true → -2048 ≤ r.disp ∧ r.disp ≤ 2047 ∧ r.dispPort = (r.dispRaw.setWidth 12).signExtend 21) ∧
    (r.dispSigned = false → r.disp = r.dispRaw.toNat ∧ r.dispPort = r.dispRaw.setWidth 21)

/-- R163: a Format 4 displacement is never sign-extended: it is the 20-bit field's value, whatever its bits 19 and 11. -/
def Obligations.Format4NeverSignExtended : Prop :=
  ∀ (s : State) (r : Record), Reports s r → r.fmt = .f4 →
    r.dispSigned = false ∧ r.disp = r.dispRaw.toNat ∧ 0 ≤ r.disp ∧ r.disp ≤ 2 ^ 20 - 1

/-- R165, R8: over all decodes the displacement lies in [-2048, 2^20 - 1], and the 21-bit port holds it exactly (the spec's
own decisions D4 and D8). -/
def Obligations.DisplacementRange : Prop :=
  ∀ (s : State) (r : Record), Reports s r → -2048 ≤ r.disp ∧ r.disp ≤ 2 ^ 20 - 1 ∧ r.dispPort.toInt = r.disp

/-! ## The target-address ALU -/

/-- R180, R181, R182: an IMMEDIATE record has no target address; every other has the exact sum of the operand its format and qualifier
select and, with x = 1, the offset. (The spec's own decisions D6, D7, D10 and D17.) -/
def Obligations.TargetAddress : Prop :=
  ∀ (s : State) (r : Record), Reports s r →
    (r.taValid = true ↔ r.mode ≠ .immediate) ∧
    (r.mode = .immediate → r.ta = none) ∧
    (r.mode ≠ .immediate → r.ta = some (
      (if r.fmt = .f4 then r.disp
       else if r.qual = .pcRel then s.pc.toNat + r.disp
       else if r.qual = .baseRel then s.base.toNat + r.disp
       else r.disp) + indexed s r.x))

/-- R186, R184, R185: the bounds of the target address in each case and over all, and the `TA_W`-bit port holds it exactly: nothing wraps (the
spec's own decisions D4 and D5; which sum each case has rests on its D6, D7, D8, D10 and D17). -/
def Obligations.TargetAddressRange : Prop :=
  ∀ (s : State) (r : Record) (t : Int), Reports s r → r.ta = some t →
    -2048 ≤ t ∧ t ≤ (2 ^ s.params.boundW - 1) + 4095 + (2 ^ s.params.boundW - 1) ∧ t < 2 ^ (s.params.boundW + 2) ∧
    (r.fmt = .f3 → r.qual = .pcRel → -2048 ≤ t - indexed s r.x ∧ t - indexed s r.x ≤ 2 ^ s.params.addrW + 2046) ∧
    (r.fmt = .f3 → r.qual = .baseRel → 0 ≤ t - indexed s r.x ∧ t - indexed s r.x ≤ 2 ^ s.params.addrW + 4094) ∧
    ((r.qual = .direct ∨ r.mode = .simpleSic) → 0 ≤ t - indexed s r.x ∧ t - indexed s r.x ≤ 4095) ∧
    (r.fmt = .f4 → 0 ≤ t - indexed s r.x ∧ t - indexed s r.x ≤ 2 ^ 20 - 1) ∧
    ∃ v, r.taPort s.params = some v ∧ v.toInt = t

/-- R182: setting the x bit of a word whose x bit is 0 sets x in the record, adds `X_OFFSET` to the target address where there is one, in
either format and every mode, and changes no other output and no error (the spec's own decisions D10 and D17). -/
def Obligations.IndexBitAddsOffset : Prop :=
  (∀ (s : State) (hex' : List Char) (w : Word24), classify s.hex = .f3 w → w.getLsbD 15 = false →
    classify hex' = .f3 (w ||| 0x8000) →
    ∃ o, step s = .next { s with out := o } ∧
      step { s with hex := hex' } = .next { s with hex := hex', out := setX s.params.xOffset.toNat 0x8000 o }) ∧
  ∀ (s : State) (hex' : List Char) (w : Word32), classify s.hex = .f4 w → w.getLsbD 23 = false →
    classify hex' = .f4 (w ||| 0x800000) →
    ∃ o, step s = .next { s with out := o } ∧
      step { s with hex := hex' } = .next { s with hex := hex', out := setX s.params.xOffset.toNat 0x800000 o }

/-- R187, R35: pc and base are used as given: the target address of an F3 PC-relative (base-relative) word is the value on the pc
(base) port plus the displacement, and the offset if x = 1, with no instruction length or other amount added; and presenting another
value moves it by exactly the difference and changes no other output (the spec's own decisions D16 and D17). -/
def Obligations.PcAndBaseUsedAsGiven : Prop :=
  ∀ (s : State) (r : Record), Reports s r →
    (r.fmt = .f3 → r.qual = .pcRel → r.ta = some (s.pc.toNat + r.disp + indexed s r.x) ∧ ∀ pc' : BitVec s.params.addrW,
      step { s with pc := pc' } =
        .next { s with pc := pc', out := .ok { r with ta := r.ta.map (· + ((pc'.toNat : Int) - s.pc.toNat)) } }) ∧
    (r.fmt = .f3 → r.qual = .baseRel → r.ta = some (s.base.toNat + r.disp + indexed s r.x) ∧ ∀ base' : BitVec s.params.addrW,
      step { s with base := base' } =
        .next { s with base := base', out := .ok { r with ta := r.ta.map (· + ((base'.toNat : Int) - s.base.toNat)) } })

/-! ## What the result does not depend on -/

/-- R205, R102: but for an F3 PC-relative record the result does not depend on pc; but for an F3 base-relative one, not on base; and never
on the case of the digits. Which cases read pc and base rests on the spec's own decisions D6, D7 and D10, the digits on its D2. -/
def Obligations.InputsNotRead : Prop :=
  ∀ s : State, ∃ o, step s = .next { s with out := o } ∧
    (¬ ReadsPc o → ∀ pc' : BitVec s.params.addrW, step { s with pc := pc' } = .next { s with pc := pc', out := o }) ∧
    (¬ ReadsBase o → ∀ base' : BitVec s.params.addrW,
      step { s with base := base' } = .next { s with base := base', out := o }) ∧
    step { s with hex := normalise s.hex } = .next { s with hex := normalise s.hex, out := o }

/-- R203, R267: the result is the same whatever an earlier decode left on the outputs, an error or a record; and decoding again
gives it again. -/
def Obligations.HistoryDoesNotMatter : Prop :=
  ∀ s : State, ∃ o, step s = .next { s with out := o } ∧
    (∀ before : DecodeResult, step { s with out := before } = .next { s with out := o }) ∧
    step { s with out := o } = .next { s with out := o }

/-! ## The opcode table, the port codes and the table words -/

/-- R85, R76: every word of each format matches exactly one row of the table, and it is the row of the class the decoder reads. -/
def Obligations.OneTableRowPerWord : Prop :=
  (∀ w : Word24, ((tableF3 ++ tableF4).filter (·.hits .f3 (w.setWidth 32))).map (·.mnemonic) = [(decodeF3 w).mnemonic]) ∧
  ∀ w : Word32, ((tableF3 ++ tableF4).filter (·.hits .f4 w)).map (·.mnemonic) = [(decodeF4 w).mnemonic]

/-- R32, R260: the codes of `err`, `fmt`, `mode` and `qual` are the table's, OK included; no two names of a port share one; the
codes 101 to 111 of `mode` and `qual` are never produced; and in every record `ta_valid` carries 0 for IMMEDIATE and 1 otherwise
(R184), and `a_known` carries 0 (R202). The codes are the spec's own decisions D12 and D13; the last two clauses rest on its D10 and
D18. -/
def Obligations.PortCodesDistinct : Prop :=
  (∀ r : Record, DecodeResult.errPort (.ok r) = 0b00#2) ∧
  [DecodeError.invalidHex, .unsupportedFormat, .invalidFlagCombination].map (fun err => DecodeResult.errPort (.error err))
    = [0b01#2, 0b10#2, 0b11#2] ∧
  [Format.f3, .f4].map fmtPort = [0#1, 1#1] ∧
  [Mode.simple, .simpleSic, .simpleDirect4, .immediate, .indirect].map modePort = [0b000#3, 0b001#3, 0b010#3, 0b011#3, 0b100#3] ∧
  [Qual.none, .pcRel, .baseRel, .direct, .absolute].map qualPort = [0b000#3, 0b001#3, 0b010#3, 0b011#3, 0b100#3] ∧
  (∀ a b : Mode, modePort a = modePort b → a = b) ∧ (∀ a b : Qual, qualPort a = qualPort b → a = b) ∧
  (∀ a b : Format, fmtPort a = fmtPort b → a = b) ∧
  (∀ a b : DecodeError, DecodeResult.errPort (.error a) = DecodeResult.errPort (.error b) → a = b) ∧
  (∀ (r : Record) (err : DecodeError), DecodeResult.errPort (.ok r) ≠ DecodeResult.errPort (.error err)) ∧
  (∀ m : Mode, (modePort m).toNat ≤ 0b100) ∧ (∀ q : Qual, (qualPort q).toNat ≤ 0b100) ∧
  ∀ (s : State) (r : Record), Reports s r →
    r.taValidPort = (if r.mode = .immediate then 0#1 else 1#1) ∧ r.aKnownPort = 0#1

/-- A word placed by `withFetchWord` is the one the next step runs, as the decoder reads it. That the place is the `hex` port is the
model's choice (log entry 6). -/
def Obligations.FetchWordRuns : Prop :=
  ∀ (s : State) (w : Nat),
    step (s.withFetchWord 24 w) = exec (decodeF3 (BitVec.ofNat 24 w)) (s.withFetchWord 24 w) ∧
    step (s.withFetchWord 32 w) = exec (decodeF4 (BitVec.ofNat 32 w)) (s.withFetchWord 32 w) ∧
    decodeTableWord 24 w = some (decodeF3 (BitVec.ofNat 24 w)) ∧
    decodeTableWord 32 w = some (decodeF4 (BitVec.ofNat 32 w))
end

