-- ==== Sys2Proof/Laws/Decode.lean ====
section
/-! SUPPORT. Laws/Decode: hex digits and words, the classifier's cases, and the step on each case. -/

namespace Sys2Proof

theorem hexDigit?_lt {c : Char} {v : Nat} (h : hexDigit? c = some v) : v < 16 := by
  unfold hexDigit? at h
  repeat' split at h
  all_goals simp at h
  all_goals omega

theorem digitValue_lt (c : Char) : digitValue c < 16 := by
  unfold digitValue
  cases h : hexDigit? c with
  | none => simp
  | some v => simpa using hexDigit?_lt h

theorem hexDigit?_digitChar {v : Nat} (h : v < 16) : hexDigit? (digitChar v) = some v := by
  have : ∀ u : Fin 16, hexDigit? (digitChar u) = some u.val := by decide
  exact this ⟨v, h⟩

theorem isHexDigit_digitChar {v : Nat} (h : v < 16) : isHexDigit (digitChar v) = true := by
  simp [isHexDigit, hexDigit?_digitChar h]

theorem digitValue_digitChar {v : Nat} (h : v < 16) : digitValue (digitChar v) = v := by
  simp [digitValue, hexDigit?_digitChar h]

@[simp] theorem hexString_length (k w : Nat) : (hexString k w).length = k := by
  induction k with
  | zero => rfl
  | succ k ih => simp [hexString, ih]

theorem hexString_all (k w : Nat) : (hexString k w).all isHexDigit = true := by
  induction k with
  | zero => rfl
  | succ k ih =>
    simp only [hexString, List.all_cons, ih, Bool.and_true]
    exact isHexDigit_digitChar (Nat.mod_lt _ (by decide))

theorem hexOk_hexString (k w : Nat) : hexOk (hexString (k + 1) w) = true := by
  have h := hexString_all (k + 1) w
  simp only [hexOk, h]
  rfl

theorem foldl_hex (cs : List Char) (a : Nat) :
    cs.foldl (fun acc c => acc * 16 + digitValue c) a = a * 16 ^ cs.length + hexValue cs := by
  unfold hexValue
  induction cs generalizing a with
  | nil => simp
  | cons c cs ih =>
    simp only [List.foldl_cons, List.length_cons]
    rw [ih, ih (0 * 16 + digitValue c)]
    simp only [Nat.pow_succ, Nat.add_mul, Nat.zero_mul, Nat.zero_add, Nat.mul_assoc, Nat.add_assoc, Nat.mul_comm 16]

theorem hexValue_cons (c : Char) (cs : List Char) : hexValue (c :: cs) = digitValue c * 16 ^ cs.length + hexValue cs := by
  have := foldl_hex cs (0 * 16 + digitValue c)
  simpa [hexValue] using this

theorem hexValue_lt (cs : List Char) : hexValue cs < 16 ^ cs.length := by
  induction cs with
  | nil => simp [hexValue]
  | cons c cs ih =>
    rw [hexValue_cons, List.length_cons, Nat.pow_succ]
    have := digitValue_lt c
    have h : digitValue c * 16 ^ cs.length ≤ 15 * 16 ^ cs.length := Nat.mul_le_mul_right _ (by omega)
    omega

/-- The digits of a word are read back as the word (R103, R51). -/
theorem hexValue_hexString (k w : Nat) : hexValue (hexString k w) = w % 16 ^ k := by
  induction k with
  | zero => simp [hexString, hexValue, Nat.mod_one]
  | succ k ih =>
    rw [hexString, hexValue_cons, hexString_length, ih, digitValue_digitChar (Nat.mod_lt _ (by decide)),
      Nat.pow_succ, Nat.mod_mul, Nat.add_comm, Nat.mul_comm]

theorem classify_hexString_f3 (w : Nat) : classify (hexString 6 w) = .f3 (BitVec.ofNat 24 w) := by
  simp only [classify, hexOk_hexString, hexString_length, hexValue_hexString]
  simp [← BitVec.toNat_inj]

theorem classify_hexString_f4 (w : Nat) : classify (hexString 8 w) = .f4 (BitVec.ofNat 32 w) := by
  simp only [classify, hexOk_hexString, hexString_length, hexValue_hexString]
  simp [← BitVec.toNat_inj]

/-- Everything the classifier can answer, with what each answer says of the characters. -/
theorem classify_cases (cs : List Char) :
    (hexOk cs = false ∧ classify cs = .rejected .invalidHex) ∨
    (hexOk cs = true ∧ cs.length = 6 ∧ classify cs = .f3 (BitVec.ofNat 24 (hexValue cs))) ∨
    (hexOk cs = true ∧ cs.length = 8 ∧ classify cs = .f4 (BitVec.ofNat 32 (hexValue cs))) ∨
    (hexOk cs = true ∧ cs.length ≠ 6 ∧ cs.length ≠ 8 ∧ classify cs = .rejected .unsupportedFormat) := by
  unfold classify
  by_cases h : hexOk cs = false
  · simp [h]
  · by_cases h6 : cs.length = 6
    · simp [h, h6]
    · by_cases h8 : cs.length = 8 <;> simp [h, h6, h8]

theorem decodeHex_of_f3 {cs : List Char} {w : Word24} (h : classify cs = .f3 w) : decodeHex cs = .instr (decodeF3 w) := by
  simp [decodeHex, h]

theorem decodeHex_of_f4 {cs : List Char} {w : Word32} (h : classify cs = .f4 w) : decodeHex cs = .instr (decodeF4 w) := by
  simp [decodeHex, h]

theorem decodeHex_of_rejected {cs : List Char} {err : DecodeError} (h : classify cs = .rejected err) :
    decodeHex cs = .rejected err := by
  simp [decodeHex, h]

/-- Packing the fields of a Format 3 word gives the word back: no bit of the layout R71 is dropped. -/
theorem packF3_extract (w : Word24) : packF3 (extract w) = w := by
  apply BitVec.eq_of_getLsbD_eq
  intro k hk
  simp only [packF3, extract, BitVec.getLsbD_append, BitVec.getLsbD_setWidth, BitVec.getLsbD_extractLsb', BitVec.getLsbD_ofBool]
  have : k = 0 ∨ k = 1 ∨ k = 2 ∨ k = 3 ∨ k = 4 ∨ k = 5 ∨ k = 6 ∨ k = 7 ∨ k = 8 ∨ k = 9 ∨ k = 10 ∨ k = 11 ∨ k = 12 ∨ k = 13 ∨
    k = 14 ∨ k = 15 ∨ k = 16 ∨ k = 17 ∨ k = 18 ∨ k = 19 ∨ k = 20 ∨ k = 21 ∨ k = 22 ∨ k = 23 := by omega
  rcases this with rfl | rfl | rfl | rfl | rfl | rfl | rfl | rfl | rfl | rfl | rfl | rfl | rfl | rfl | rfl | rfl | rfl | rfl |
    rfl | rfl | rfl | rfl | rfl | rfl <;> simp

/-- Packing the fields of a Format 4 word gives the word back: no bit of the layout R72 is dropped. -/
theorem packF4_extract (w : Word32) : packF4 (extract w) = w := by
  apply BitVec.eq_of_getLsbD_eq
  intro k hk
  simp only [packF4, extract, BitVec.getLsbD_append, BitVec.getLsbD_setWidth, BitVec.getLsbD_extractLsb', BitVec.getLsbD_ofBool]
  by_cases h20 : k < 20
  · simp [h20]
  · have : k = 20 ∨ k = 21 ∨ k = 22 ∨ k = 23 ∨ k = 24 ∨ k = 25 ∨ k = 26 ∨ k = 27 ∨ k = 28 ∨ k = 29 ∨ k = 30 ∨ k = 31 := by omega
    rcases this with rfl | rfl | rfl | rfl | rfl | rfl | rfl | rfl | rfl | rfl | rfl | rfl <;> simp

/-- The fields of a packed Format 3 word are the fields that were packed. -/
theorem extract_packF3 (op : Opcode6) (n i x b p e : Bool) (d : Field12) :
    extract (packF3 (f3Fields op n i x b p e d)) = f3Fields op n i x b p e d := by
  have hd : (packF3 (f3Fields op n i x b p e d)).extractLsb' 0 12 = d := by
    apply BitVec.eq_of_getLsbD_eq
    intro k hk
    simp only [packF3, f3Fields, BitVec.getLsbD_append, BitVec.getLsbD_setWidth, BitVec.getLsbD_extractLsb']
    simp [hk, show k < 20 by omega]
  have ho : (packF3 (f3Fields op n i x b p e d)).extractLsb' 18 6 = op := by
    apply BitVec.eq_of_getLsbD_eq
    intro k hk
    simp only [packF3, f3Fields, BitVec.getLsbD_append, BitVec.getLsbD_extractLsb']
    have : k = 0 ∨ k = 1 ∨ k = 2 ∨ k = 3 ∨ k = 4 ∨ k = 5 := by omega
    rcases this with rfl | rfl | rfl | rfl | rfl | rfl <;> simp
  simp only [extract, Nat.reduceSub, hd, ho]
  simp only [packF3, f3Fields, BitVec.getLsbD_append, BitVec.getLsbD_ofBool]
  simp

/-- The fields of a packed Format 4 word are the fields that were packed. -/
theorem extract_packF4 (op : Opcode6) (n i x b p e : Bool) (d : Field20) :
    extract (packF4 (f4Fields op n i x b p e d)) = f4Fields op n i x b p e d := by
  have hd : (packF4 (f4Fields op n i x b p e d)).extractLsb' 0 20 = d := by
    apply BitVec.eq_of_getLsbD_eq
    intro k hk
    simp only [packF4, f4Fields, BitVec.getLsbD_append, BitVec.getLsbD_extractLsb']
    simp [hk]
  have ho : (packF4 (f4Fields op n i x b p e d)).extractLsb' 26 6 = op := by
    apply BitVec.eq_of_getLsbD_eq
    intro k hk
    simp only [packF4, f4Fields, BitVec.getLsbD_append, BitVec.getLsbD_extractLsb']
    have : k = 0 ∨ k = 1 ∨ k = 2 ∨ k = 3 ∨ k = 4 ∨ k = 5 := by omega
    rcases this with rfl | rfl | rfl | rfl | rfl | rfl <;> simp
  simp only [extract, Nat.reduceSub, hd, ho]
  simp only [packF4, f4Fields, BitVec.getLsbD_append, BitVec.getLsbD_ofBool]
  simp

end Sys2Proof

namespace Sys2Proof.Machine

open Sys2Proof

theorem step_of_f3 {s : State} {w : Word24} (h : classify s.hex = .f3 w) : step s = exec (decodeF3 w) s := by
  simp [step, decodeHex_of_f3 h]

theorem step_of_f4 {s : State} {w : Word32} (h : classify s.hex = .f4 w) : step s = exec (decodeF4 w) s := by
  simp [step, decodeHex_of_f4 h]

theorem step_of_rejected {s : State} {err : DecodeError} (h : classify s.hex = .rejected err) :
    step s = .next { s with out := .error err } := by
  simp [step, decodeHex_of_rejected h, raiseError]

end Sys2Proof.Machine
end

