-- ==== Sys2Proof/Laws/Ops.lean ====
section
/-! SUPPORT. Laws/Ops: what the shared operations can do: one lemma for each. -/

namespace Sys2Proof.Machine

open Sys2Proof

theorem reportOk_next {r : Record} {s t : State} : reportOk r s = .next t ↔ t = { s with out := .ok r } := by
  simp [reportOk, eq_comm]

theorem raiseError_next {err : DecodeError} {s t : State} :
    raiseError err s = .next t ↔ t = { s with out := .error err } := by
  simp [raiseError, eq_comm]

theorem reportF3_next {f : Fields} {mode : Mode} {qual : Qual} {sg : Bool} {disp : Int} {ta : Option Int} {s t : State} :
    reportF3 f mode qual sg disp ta s = .next t ↔
      t = { s with out := .ok (mkRecord .f3 ((packF3 f).setWidth 32) f mode qual sg disp ta) } := reportOk_next

theorem reportF4_next {f : Fields} {mode : Mode} {qual : Qual} {disp : Int} {ta : Option Int} {s t : State} :
    reportF4 f mode qual disp ta s = .next t ↔
      t = { s with out := .ok (mkRecord .f4 (packF4 f) f mode qual false disp ta) } := reportOk_next

theorem effOpcode_toNat (op : Opcode6) : (effOpcode op).toNat = op.toNat - op.toNat % 4 := by
  revert op; decide

theorem sint12_eq_toInt (d : Field12) : sint12 d = d.toInt := by
  rw [BitVec.toInt_eq_msb_cond, sint12, BitVec.msb_eq_getLsbD_last]
  simp

theorem sint12_range (d : Field12) : -2048 ≤ sint12 d ∧ sint12 d ≤ 2047 := by
  rw [sint12_eq_toInt]
  have h1 := BitVec.toInt_lt (x := d)
  have h2 := BitVec.le_toInt (x := d)
  omega

theorem val_range {w : Nat} (v : BitVec w) : 0 ≤ val v ∧ val v < 2 ^ w := by
  have := v.isLt
  simp only [val]
  constructor
  · omega
  · exact_mod_cast this

/-- Bit 11 of a field is its top bit: it is set exactly from 0x800 on. -/
theorem getLsbD_11_iff (d : Field12) : d.getLsbD 11 = true ↔ 0x800 ≤ d.toNat := by
  have h := BitVec.msb_eq_decide d
  rw [BitVec.msb_eq_getLsbD_last] at h
  simp only [Nat.reduceSub, Nat.reducePow] at h
  rw [h, decide_eq_true_eq]

/-- The sign-extender on the port form of a Format 3 field is `sint12` of the field. -/
theorem signExtender_f3 (d : Field12) : signExtender true (d.setWidth 20) = sint12 d := by
  have := d.isLt
  have hv : (d.setWidth 20).toNat = d.toNat := by rw [BitVec.toNat_setWidth]; omega
  have hb : (d.setWidth 20).getLsbD 11 = d.getLsbD 11 := by rw [BitVec.getLsbD_setWidth]; rfl
  simp only [signExtender, sint12, val, hv, hb, Bool.true_and]

/-- The port form of a Format 3 field has the field's value (R123). -/
@[simp] theorem val_setWidth_f3 (d : Field12) : val (d.setWidth 20) = val d := by
  have := d.isLt
  simp only [val, BitVec.toNat_setWidth]
  omega

theorem signExtender_off (v : Field20) : signExtender false v = val v := by simp [signExtender]

@[simp] theorem taAlu_immediate (P : Params) (fmt : Format) (q : Qual) (x : Bool) (pc base disp : Int) :
    taAlu P fmt .immediate q x pc base disp = none := by simp [taAlu]

theorem taAlu_isSome (P : Params) (fmt : Format) (m : Mode) (q : Qual) (x : Bool) (pc base disp : Int) :
    (taAlu P fmt m q x pc base disp).isSome = true ↔ m ≠ .immediate := by
  simp only [taAlu]; split <;> simp_all

end Sys2Proof.Machine
end

