-- ==== Sys2Proof/Laws/PerInstr.lean ====
section
/-! SUPPORT. Laws/PerInstr: facts about an instruction as syntax, one lemma for each class. -/

namespace Sys2Proof.Laws.EncodeAccepted

open Sys2Proof

/-- The encoder's characters are an input the block accepts (R82), of the length of the instruction's format (R70). -/
def Statement (i : Instr) : Prop := inputWellFormed (encode i) = true ∧ (encode i).length = i.fmt.digits

theorem of_fmt (i : Instr) : Statement i := by
  refine ⟨?_, hexString_length _ _⟩
  change (hexOk (encode i) && _) = true
  cases h : i.fmt <;> simp only [encode, h, Format.digits, hexOk_hexString, hexString_length] <;> rfl

theorem f3SimpleSicB0P0 (op : Opcode6) (x e : Bool) (d : Field12) : Statement (.f3SimpleSicB0P0 op x e d) := of_fmt _
theorem f3SimpleSicB0P1 (op : Opcode6) (x e : Bool) (d : Field12) : Statement (.f3SimpleSicB0P1 op x e d) := of_fmt _
theorem f3SimpleSicB1P0 (op : Opcode6) (x e : Bool) (d : Field12) : Statement (.f3SimpleSicB1P0 op x e d) := of_fmt _
theorem f3SimpleSicB1P1 (op : Opcode6) (x e : Bool) (d : Field12) : Statement (.f3SimpleSicB1P1 op x e d) := of_fmt _
theorem f3SimpleB0P0 (op : Opcode6) (x e : Bool) (d : Field12) : Statement (.f3SimpleB0P0 op x e d) := of_fmt _
theorem f3SimpleB0P1 (op : Opcode6) (x e : Bool) (d : Field12) : Statement (.f3SimpleB0P1 op x e d) := of_fmt _
theorem f3SimpleB1P0 (op : Opcode6) (x e : Bool) (d : Field12) : Statement (.f3SimpleB1P0 op x e d) := of_fmt _
theorem f3SimpleB1P1 (op : Opcode6) (x e : Bool) (d : Field12) : Statement (.f3SimpleB1P1 op x e d) := of_fmt _
theorem f3ImmediateB0P0 (op : Opcode6) (x e : Bool) (d : Field12) : Statement (.f3ImmediateB0P0 op x e d) := of_fmt _
theorem f3ImmediateB0P1 (op : Opcode6) (x e : Bool) (d : Field12) : Statement (.f3ImmediateB0P1 op x e d) := of_fmt _
theorem f3ImmediateB1P0 (op : Opcode6) (x e : Bool) (d : Field12) : Statement (.f3ImmediateB1P0 op x e d) := of_fmt _
theorem f3ImmediateB1P1 (op : Opcode6) (x e : Bool) (d : Field12) : Statement (.f3ImmediateB1P1 op x e d) := of_fmt _
theorem f3IndirectB0P0 (op : Opcode6) (x e : Bool) (d : Field12) : Statement (.f3IndirectB0P0 op x e d) := of_fmt _
theorem f3IndirectB0P1 (op : Opcode6) (x e : Bool) (d : Field12) : Statement (.f3IndirectB0P1 op x e d) := of_fmt _
theorem f3IndirectB1P0 (op : Opcode6) (x e : Bool) (d : Field12) : Statement (.f3IndirectB1P0 op x e d) := of_fmt _
theorem f3IndirectB1P1 (op : Opcode6) (x e : Bool) (d : Field12) : Statement (.f3IndirectB1P1 op x e d) := of_fmt _
theorem f4SimpleDirect4B0P0 (op : Opcode6) (x e : Bool) (d : Field20) : Statement (.f4SimpleDirect4B0P0 op x e d) := of_fmt _
theorem f4SimpleDirect4B0P1 (op : Opcode6) (x e : Bool) (d : Field20) : Statement (.f4SimpleDirect4B0P1 op x e d) := of_fmt _
theorem f4SimpleDirect4B1P0 (op : Opcode6) (x e : Bool) (d : Field20) : Statement (.f4SimpleDirect4B1P0 op x e d) := of_fmt _
theorem f4SimpleDirect4B1P1 (op : Opcode6) (x e : Bool) (d : Field20) : Statement (.f4SimpleDirect4B1P1 op x e d) := of_fmt _
theorem f4SimpleB0P0 (op : Opcode6) (x e : Bool) (d : Field20) : Statement (.f4SimpleB0P0 op x e d) := of_fmt _
theorem f4SimpleB0P1 (op : Opcode6) (x e : Bool) (d : Field20) : Statement (.f4SimpleB0P1 op x e d) := of_fmt _
theorem f4SimpleB1P0 (op : Opcode6) (x e : Bool) (d : Field20) : Statement (.f4SimpleB1P0 op x e d) := of_fmt _
theorem f4SimpleB1P1 (op : Opcode6) (x e : Bool) (d : Field20) : Statement (.f4SimpleB1P1 op x e d) := of_fmt _
theorem f4ImmediateB0P0 (op : Opcode6) (x e : Bool) (d : Field20) : Statement (.f4ImmediateB0P0 op x e d) := of_fmt _
theorem f4ImmediateB0P1 (op : Opcode6) (x e : Bool) (d : Field20) : Statement (.f4ImmediateB0P1 op x e d) := of_fmt _
theorem f4ImmediateB1P0 (op : Opcode6) (x e : Bool) (d : Field20) : Statement (.f4ImmediateB1P0 op x e d) := of_fmt _
theorem f4ImmediateB1P1 (op : Opcode6) (x e : Bool) (d : Field20) : Statement (.f4ImmediateB1P1 op x e d) := of_fmt _
theorem f4IndirectB0P0 (op : Opcode6) (x e : Bool) (d : Field20) : Statement (.f4IndirectB0P0 op x e d) := of_fmt _
theorem f4IndirectB0P1 (op : Opcode6) (x e : Bool) (d : Field20) : Statement (.f4IndirectB0P1 op x e d) := of_fmt _
theorem f4IndirectB1P0 (op : Opcode6) (x e : Bool) (d : Field20) : Statement (.f4IndirectB1P0 op x e d) := of_fmt _
theorem f4IndirectB1P1 (op : Opcode6) (x e : Bool) (d : Field20) : Statement (.f4IndirectB1P1 op x e d) := of_fmt _

end Sys2Proof.Laws.EncodeAccepted
end

