-- ==== Sys2Proof/Laws/State.lean ====
section
/-! SUPPORT. Laws/State: one lemma for each field under each update of State. -/

namespace Sys2Proof.Machine

open Sys2Proof

@[simp] theorem State.present_params (s : State) (h : List Char) (pc base : BitVec s.params.addrW) :
    (s.present h pc base).params = s.params := rfl
@[simp] theorem State.present_hex (s : State) (h : List Char) (pc base : BitVec s.params.addrW) :
    (s.present h pc base).hex = h := rfl
@[simp] theorem State.present_pc (s : State) (h : List Char) (pc base : BitVec s.params.addrW) :
    (s.present h pc base).pc = pc := rfl
@[simp] theorem State.present_base (s : State) (h : List Char) (pc base : BitVec s.params.addrW) :
    (s.present h pc base).base = base := rfl
@[simp] theorem State.present_out (s : State) (h : List Char) (pc base : BitVec s.params.addrW) :
    (s.present h pc base).out = s.out := rfl

@[simp] theorem State.withFetchWord_params (s : State) (nbits w : Nat) : (s.withFetchWord nbits w).params = s.params := rfl
@[simp] theorem State.withFetchWord_hex (s : State) (nbits w : Nat) : (s.withFetchWord nbits w).hex = tableHex nbits w := rfl
@[simp] theorem State.withFetchWord_pc (s : State) (nbits w : Nat) : (s.withFetchWord nbits w).pc = s.pc := rfl
@[simp] theorem State.withFetchWord_base (s : State) (nbits w : Nat) : (s.withFetchWord nbits w).base = s.base := rfl
@[simp] theorem State.withFetchWord_out (s : State) (nbits w : Nat) : (s.withFetchWord nbits w).out = s.out := rfl

@[simp] theorem State.reset_out : State.reset.out = .error .invalidHex := rfl
@[simp] theorem State.reset_hex : State.reset.hex = [] := rfl
@[simp] theorem State.reset_params : State.reset.params = Params.default := rfl

end Sys2Proof.Machine
end

