-- ==== Sys2Proof/Tests/Slice0.lean ====
section
/-! SUPPORT. Slice0: the author's own tests. Every expected value is the spec's: the vectors of 95_test_vectors.md (named in each
comment), the examples of the class rules, or the layouts R71 and R72 written out bit by bit. -/

namespace Sys2Proof.Tests

open Sys2Proof Sys2Proof.Machine Sys2Proof.Claims

/-! ## Helpers -/

/-- A block with the default parameters and these inputs. -/
def input (hex : String) (pc base : BitVec 24) : State := State.reset.present hex.toList pc base

/-- The output of one step, where there is a next state. -/
def observe (s : State) : Option DecodeResult :=
  match step s with
  | .next t => some t.out
  | .fault _ => none
  | .refused _ => none

/-- `mode`, `qual`, `disp_signed`, `disp` and `ta` of one step. -/
def view (s : State) : Option (Mode × Qual × Bool × Int × Option Int) :=
  match observe s with
  | some (.ok r) => some (r.mode, r.qual, r.dispSigned, r.disp, r.ta)
  | some (.error _) => none
  | none => none

/-- `opcode6`, `eff_opcode` and the six flags of one step. -/
def fieldsView (s : State) : Option (Nat × Nat × List Bool) :=
  match observe s with
  | some (.ok r) => some (r.opcode6.toNat, r.effOpcode.toNat, [r.n, r.i, r.x, r.b, r.p, r.e])
  | some (.error _) => none
  | none => none

/-! ## Decoding: one word of each class, bit by bit (opcode6, n i, x, b p, e, field) -/

theorem test_decode_f3SimpleSicB0P0 : decodeF3 (0b001101#6 ++ 0b00#2 ++ 0b1#1 ++ 0b00#2 ++ 0b0#1 ++ 0b100000010010#12) =
    .f3SimpleSicB0P0 0x0D true false 0x812 := by decide
theorem test_decode_f3SimpleSicB0P1 : decodeF3 (0b001101#6 ++ 0b00#2 ++ 0b1#1 ++ 0b01#2 ++ 0b0#1 ++ 0b100000010010#12) =
    .f3SimpleSicB0P1 0x0D true false 0x812 := by decide
theorem test_decode_f3SimpleSicB1P0 : decodeF3 (0b001101#6 ++ 0b00#2 ++ 0b1#1 ++ 0b10#2 ++ 0b0#1 ++ 0b100000010010#12) =
    .f3SimpleSicB1P0 0x0D true false 0x812 := by decide
theorem test_decode_f3SimpleSicB1P1 : decodeF3 (0b001101#6 ++ 0b00#2 ++ 0b1#1 ++ 0b11#2 ++ 0b0#1 ++ 0b100000010010#12) =
    .f3SimpleSicB1P1 0x0D true false 0x812 := by decide
theorem test_decode_f3SimpleB0P0 : decodeF3 (0b001101#6 ++ 0b11#2 ++ 0b1#1 ++ 0b00#2 ++ 0b0#1 ++ 0b100000010010#12) =
    .f3SimpleB0P0 0x0D true false 0x812 := by decide
theorem test_decode_f3SimpleB0P1 : decodeF3 (0b001101#6 ++ 0b11#2 ++ 0b1#1 ++ 0b01#2 ++ 0b0#1 ++ 0b100000010010#12) =
    .f3SimpleB0P1 0x0D true false 0x812 := by decide
theorem test_decode_f3SimpleB1P0 : decodeF3 (0b001101#6 ++ 0b11#2 ++ 0b1#1 ++ 0b10#2 ++ 0b0#1 ++ 0b100000010010#12) =
    .f3SimpleB1P0 0x0D true false 0x812 := by decide
theorem test_decode_f3SimpleB1P1 : decodeF3 (0b001101#6 ++ 0b11#2 ++ 0b1#1 ++ 0b11#2 ++ 0b0#1 ++ 0b100000010010#12) =
    .f3SimpleB1P1 0x0D true false 0x812 := by decide
theorem test_decode_f3ImmediateB0P0 : decodeF3 (0b001101#6 ++ 0b01#2 ++ 0b1#1 ++ 0b00#2 ++ 0b0#1 ++ 0b100000010010#12) =
    .f3ImmediateB0P0 0x0D true false 0x812 := by decide
theorem test_decode_f3ImmediateB0P1 : decodeF3 (0b001101#6 ++ 0b01#2 ++ 0b1#1 ++ 0b01#2 ++ 0b0#1 ++ 0b100000010010#12) =
    .f3ImmediateB0P1 0x0D true false 0x812 := by decide
theorem test_decode_f3ImmediateB1P0 : decodeF3 (0b001101#6 ++ 0b01#2 ++ 0b1#1 ++ 0b10#2 ++ 0b0#1 ++ 0b100000010010#12) =
    .f3ImmediateB1P0 0x0D true false 0x812 := by decide
theorem test_decode_f3ImmediateB1P1 : decodeF3 (0b001101#6 ++ 0b01#2 ++ 0b1#1 ++ 0b11#2 ++ 0b0#1 ++ 0b100000010010#12) =
    .f3ImmediateB1P1 0x0D true false 0x812 := by decide
theorem test_decode_f3IndirectB0P0 : decodeF3 (0b001101#6 ++ 0b10#2 ++ 0b1#1 ++ 0b00#2 ++ 0b0#1 ++ 0b100000010010#12) =
    .f3IndirectB0P0 0x0D true false 0x812 := by decide
theorem test_decode_f3IndirectB0P1 : decodeF3 (0b001101#6 ++ 0b10#2 ++ 0b1#1 ++ 0b01#2 ++ 0b0#1 ++ 0b100000010010#12) =
    .f3IndirectB0P1 0x0D true false 0x812 := by decide
theorem test_decode_f3IndirectB1P0 : decodeF3 (0b001101#6 ++ 0b10#2 ++ 0b1#1 ++ 0b10#2 ++ 0b0#1 ++ 0b100000010010#12) =
    .f3IndirectB1P0 0x0D true false 0x812 := by decide
theorem test_decode_f3IndirectB1P1 : decodeF3 (0b001101#6 ++ 0b10#2 ++ 0b1#1 ++ 0b11#2 ++ 0b0#1 ++ 0b100000010010#12) =
    .f3IndirectB1P1 0x0D true false 0x812 := by decide
theorem test_decode_f4SimpleDirect4B0P0 : decodeF4 (0b001101#6 ++ 0b00#2 ++ 0b0#1 ++ 0b00#2 ++ 0b1#1 ++ 0b00001010100000010010#20) =
    .f4SimpleDirect4B0P0 0x0D false true 0x0A812 := by decide
theorem test_decode_f4SimpleDirect4B0P1 : decodeF4 (0b001101#6 ++ 0b00#2 ++ 0b0#1 ++ 0b01#2 ++ 0b1#1 ++ 0b00001010100000010010#20) =
    .f4SimpleDirect4B0P1 0x0D false true 0x0A812 := by decide
theorem test_decode_f4SimpleDirect4B1P0 : decodeF4 (0b001101#6 ++ 0b00#2 ++ 0b0#1 ++ 0b10#2 ++ 0b1#1 ++ 0b00001010100000010010#20) =
    .f4SimpleDirect4B1P0 0x0D false true 0x0A812 := by decide
theorem test_decode_f4SimpleDirect4B1P1 : decodeF4 (0b001101#6 ++ 0b00#2 ++ 0b0#1 ++ 0b11#2 ++ 0b1#1 ++ 0b00001010100000010010#20) =
    .f4SimpleDirect4B1P1 0x0D false true 0x0A812 := by decide
theorem test_decode_f4SimpleB0P0 : decodeF4 (0b001101#6 ++ 0b11#2 ++ 0b0#1 ++ 0b00#2 ++ 0b1#1 ++ 0b00001010100000010010#20) =
    .f4SimpleB0P0 0x0D false true 0x0A812 := by decide
theorem test_decode_f4SimpleB0P1 : decodeF4 (0b001101#6 ++ 0b11#2 ++ 0b0#1 ++ 0b01#2 ++ 0b1#1 ++ 0b00001010100000010010#20) =
    .f4SimpleB0P1 0x0D false true 0x0A812 := by decide
theorem test_decode_f4SimpleB1P0 : decodeF4 (0b001101#6 ++ 0b11#2 ++ 0b0#1 ++ 0b10#2 ++ 0b1#1 ++ 0b00001010100000010010#20) =
    .f4SimpleB1P0 0x0D false true 0x0A812 := by decide
theorem test_decode_f4SimpleB1P1 : decodeF4 (0b001101#6 ++ 0b11#2 ++ 0b0#1 ++ 0b11#2 ++ 0b1#1 ++ 0b00001010100000010010#20) =
    .f4SimpleB1P1 0x0D false true 0x0A812 := by decide
theorem test_decode_f4ImmediateB0P0 : decodeF4 (0b001101#6 ++ 0b01#2 ++ 0b0#1 ++ 0b00#2 ++ 0b1#1 ++ 0b00001010100000010010#20) =
    .f4ImmediateB0P0 0x0D false true 0x0A812 := by decide
theorem test_decode_f4ImmediateB0P1 : decodeF4 (0b001101#6 ++ 0b01#2 ++ 0b0#1 ++ 0b01#2 ++ 0b1#1 ++ 0b00001010100000010010#20) =
    .f4ImmediateB0P1 0x0D false true 0x0A812 := by decide
theorem test_decode_f4ImmediateB1P0 : decodeF4 (0b001101#6 ++ 0b01#2 ++ 0b0#1 ++ 0b10#2 ++ 0b1#1 ++ 0b00001010100000010010#20) =
    .f4ImmediateB1P0 0x0D false true 0x0A812 := by decide
theorem test_decode_f4ImmediateB1P1 : decodeF4 (0b001101#6 ++ 0b01#2 ++ 0b0#1 ++ 0b11#2 ++ 0b1#1 ++ 0b00001010100000010010#20) =
    .f4ImmediateB1P1 0x0D false true 0x0A812 := by decide
theorem test_decode_f4IndirectB0P0 : decodeF4 (0b001101#6 ++ 0b10#2 ++ 0b0#1 ++ 0b00#2 ++ 0b1#1 ++ 0b00001010100000010010#20) =
    .f4IndirectB0P0 0x0D false true 0x0A812 := by decide
theorem test_decode_f4IndirectB0P1 : decodeF4 (0b001101#6 ++ 0b10#2 ++ 0b0#1 ++ 0b01#2 ++ 0b1#1 ++ 0b00001010100000010010#20) =
    .f4IndirectB0P1 0x0D false true 0x0A812 := by decide
theorem test_decode_f4IndirectB1P0 : decodeF4 (0b001101#6 ++ 0b10#2 ++ 0b0#1 ++ 0b10#2 ++ 0b1#1 ++ 0b00001010100000010010#20) =
    .f4IndirectB1P0 0x0D false true 0x0A812 := by decide
theorem test_decode_f4IndirectB1P1 : decodeF4 (0b001101#6 ++ 0b10#2 ++ 0b0#1 ++ 0b11#2 ++ 0b1#1 ++ 0b00001010100000010010#20) =
    .f4IndirectB1P1 0x0D false true 0x0A812 := by decide

/-! ## One step of each class (rows T46-1 to T46-32) -/

theorem test_step_f3SimpleSicB0P0 : view (input "300812" 0x3000 0x6000) =
    some (.simpleSic, .none, false, 2066, some (0x812)) := by decide  -- T46-1
theorem test_step_f3SimpleSicB0P1 : view (input "302812" 0x3000 0x6000) =
    some (.simpleSic, .none, false, 2066, some (0x812)) := by decide  -- T46-2
theorem test_step_f3SimpleSicB1P0 : view (input "304812" 0x3000 0x6000) =
    some (.simpleSic, .none, false, 2066, some (0x812)) := by decide  -- T46-3
theorem test_step_f3SimpleSicB1P1 : view (input "306812" 0x3000 0x6000) =
    some (.simpleSic, .none, false, 2066, some (0x812)) := by decide  -- T46-4
theorem test_step_f3SimpleB0P0 : view (input "330812" 0x3000 0x6000) =
    some (.simple, .direct, false, 2066, some (0x812)) := by decide  -- T46-5
theorem test_step_f3SimpleB0P1 : view (input "332812" 0x3000 0x6000) =
    some (.simple, .pcRel, true, -2030, some (0x2812)) := by decide  -- T46-6
theorem test_step_f3SimpleB1P0 : view (input "334812" 0x3000 0x6000) =
    some (.simple, .baseRel, false, 2066, some (0x6812)) := by decide  -- T46-7
theorem test_step_f3SimpleB1P1 : observe (input "336812" 0x3000 0x6000) = some (.error .invalidFlagCombination) := by decide  -- T46-8
theorem test_step_f3ImmediateB0P0 : view (input "310812" 0x3000 0x6000) =
    some (.immediate, .none, false, 2066, none) := by decide  -- T46-9
theorem test_step_f3ImmediateB0P1 : view (input "312812" 0x3000 0x6000) =
    some (.immediate, .none, false, 2066, none) := by decide  -- T46-10
theorem test_step_f3ImmediateB1P0 : view (input "314812" 0x3000 0x6000) =
    some (.immediate, .none, false, 2066, none) := by decide  -- T46-11
theorem test_step_f3ImmediateB1P1 : view (input "316812" 0x3000 0x6000) =
    some (.immediate, .none, false, 2066, none) := by decide  -- T46-12
theorem test_step_f3IndirectB0P0 : view (input "320812" 0x3000 0x6000) =
    some (.indirect, .direct, false, 2066, some (0x812)) := by decide  -- T46-13
theorem test_step_f3IndirectB0P1 : view (input "322812" 0x3000 0x6000) =
    some (.indirect, .pcRel, true, -2030, some (0x2812)) := by decide  -- T46-14
theorem test_step_f3IndirectB1P0 : view (input "324812" 0x3000 0x6000) =
    some (.indirect, .baseRel, false, 2066, some (0x6812)) := by decide  -- T46-15
theorem test_step_f3IndirectB1P1 : observe (input "326812" 0x3000 0x6000) = some (.error .invalidFlagCombination) := by decide  -- T46-16
theorem test_step_f4SimpleDirect4B0P0 : view (input "3010A812" 0x3000 0x6000) =
    some (.simpleDirect4, .absolute, false, 43026, some (0xA812)) := by decide  -- T46-17
theorem test_step_f4SimpleDirect4B0P1 : view (input "3030A812" 0x3000 0x6000) =
    some (.simpleDirect4, .pcRel, false, 43026, some (0xA812)) := by decide  -- T46-18
theorem test_step_f4SimpleDirect4B1P0 : view (input "3050A812" 0x3000 0x6000) =
    some (.simpleDirect4, .baseRel, false, 43026, some (0xA812)) := by decide  -- T46-19
theorem test_step_f4SimpleDirect4B1P1 : observe (input "3070A812" 0x3000 0x6000) = some (.error .invalidFlagCombination) := by decide  -- T46-20
theorem test_step_f4SimpleB0P0 : view (input "3310A812" 0x3000 0x6000) =
    some (.simple, .absolute, false, 43026, some (0xA812)) := by decide  -- T46-21
theorem test_step_f4SimpleB0P1 : view (input "3330A812" 0x3000 0x6000) =
    some (.simple, .pcRel, false, 43026, some (0xA812)) := by decide  -- T46-22
theorem test_step_f4SimpleB1P0 : view (input "3350A812" 0x3000 0x6000) =
    some (.simple, .baseRel, false, 43026, some (0xA812)) := by decide  -- T46-23
theorem test_step_f4SimpleB1P1 : observe (input "3370A812" 0x3000 0x6000) = some (.error .invalidFlagCombination) := by decide  -- T46-24
theorem test_step_f4ImmediateB0P0 : view (input "3110A812" 0x3000 0x6000) =
    some (.immediate, .none, false, 43026, none) := by decide  -- T46-25
theorem test_step_f4ImmediateB0P1 : view (input "3130A812" 0x3000 0x6000) =
    some (.immediate, .none, false, 43026, none) := by decide  -- T46-26
theorem test_step_f4ImmediateB1P0 : view (input "3150A812" 0x3000 0x6000) =
    some (.immediate, .none, false, 43026, none) := by decide  -- T46-27
theorem test_step_f4ImmediateB1P1 : view (input "3170A812" 0x3000 0x6000) =
    some (.immediate, .none, false, 43026, none) := by decide  -- T46-28
theorem test_step_f4IndirectB0P0 : view (input "3210A812" 0x3000 0x6000) =
    some (.indirect, .absolute, false, 43026, some (0xA812)) := by decide  -- T46-29
theorem test_step_f4IndirectB0P1 : view (input "3230A812" 0x3000 0x6000) =
    some (.indirect, .pcRel, false, 43026, some (0xA812)) := by decide  -- T46-30
theorem test_step_f4IndirectB1P0 : view (input "3250A812" 0x3000 0x6000) =
    some (.indirect, .baseRel, false, 43026, some (0xA812)) := by decide  -- T46-31
theorem test_step_f4IndirectB1P1 : observe (input "3270A812" 0x3000 0x6000) = some (.error .invalidFlagCombination) := by decide  -- T46-32

/-! ## Corner vectors -/

theorem test_vector_V1 : view (input "032600" 0x3000 0x6000) =
    some (.simple, .pcRel, true, 1536, some (0x3600)) := by decide  -- V1
theorem test_vector_V2 : observe (input "ZZZZZZ" 0x0 0x0) = some (.error .invalidHex) := by decide  -- V2
theorem test_vector_V3 : observe (input "03260" 0x0 0x0) = some (.error .unsupportedFormat) := by decide  -- V3
theorem test_vector_V6 : view (input "4B101036" 0x3000 0x6000) =
    some (.simple, .absolute, false, 4150, some (0x1036)) := by decide  -- V6
theorem test_vector_V8 : view (input "03100800" 0x3000 0x6000) =
    some (.simple, .absolute, false, 2048, some (0x800)) := by decide  -- V8
theorem test_vector_T40_1 : observe (input "" 0x0 0x0) = some (.error .invalidHex) := by decide  -- T40-1
theorem test_vector_T40_2 : observe (input "0x2600" 0x3000 0x6000) = some (.error .invalidHex) := by decide  -- T40-2
theorem test_vector_T40_8 : observe (input "０３２６００" 0x3000 0x6000) = some (.error .invalidHex) := by decide  -- T40-8
theorem test_vector_T40_9 : observe (input "03260Z0" 0x3000 0x6000) = some (.error .invalidHex) := by decide  -- T40-9
theorem test_vector_T40_12 : observe (input "0326000" 0x3000 0x6000) = some (.error .unsupportedFormat) := by decide  -- T40-12
theorem test_vector_T40_17 : view (input "00032600" 0x3000 0x6000) =
    some (.simpleDirect4, .absolute, false, 206336, some (0x32600)) := by decide  -- T40-17
theorem test_vector_T40_21 : observe (input "03f00" 0x3000 0x6000) = some (.error .unsupportedFormat) := by decide  -- T40-21
theorem test_vector_T41_6 : view (input "FFDFFFFF" 0x3000 0x6000) =
    some (.simple, .baseRel, false, 1048575, some (0x10008F)) := by decide  -- T41-6
theorem test_vector_T42_12 : observe (input "FFFFFF" 0x3000 0x6000) = some (.error .invalidFlagCombination) := by decide  -- T42-12
theorem test_vector_T42_17 : observe (input "FFFFFFFF" 0x3000 0x6000) = some (.error .invalidFlagCombination) := by decide  -- T42-17
theorem test_vector_T43_7 : view (input "032800" 0x0 0x6000) =
    some (.simple, .pcRel, true, -2048, some (-0x800)) := by decide  -- T43-7
theorem test_vector_T43_9 : view (input "034800" 0x3000 0x6000) =
    some (.simple, .baseRel, false, 2048, some (0x6800)) := by decide  -- T43-9
theorem test_vector_T43_12 : view (input "002800" 0x3000 0x6000) =
    some (.simpleSic, .none, false, 2048, some (0x800)) := by decide  -- T43-12
theorem test_vector_T43_15 : view (input "033000" 0x3000 0x6000) =
    some (.simple, .pcRel, true, 0, some (0x3000)) := by decide  -- T43-15
theorem test_vector_T44_5 : view (input "03A800" 0x0 0x6000) =
    some (.simple, .pcRel, true, -2048, some (-0x770)) := by decide  -- T44-5
theorem test_vector_T44_15 : view (input "0B9FFFFF" 0x3000 0x6000) =
    some (.simple, .absolute, false, 1048575, some (0x10008F)) := by decide  -- T44-15
theorem test_vector_T44_17 : view (input "034FFF" 0x3000 0xFFFFFF) =
    some (.simple, .baseRel, false, 4095, some (0x1000FFE)) := by decide  -- T44-17
theorem test_vector_T44_18 : view (input "03CFFF" 0x3000 0xFFFFFF) =
    some (.simple, .baseRel, false, 4095, some (0x100108E)) := by decide  -- T44-18
theorem test_vector_T44_21 : view (input "01A800" 0x3000 0x6000) =
    some (.immediate, .none, false, 2048, none) := by decide  -- T44-21
theorem test_vector_T60_5 : observe (input "03F000 " 0x0 0x0) = some (.error .invalidHex) := by decide  -- T60-5
theorem test_fields_V1 : fieldsView (input "032600" 0x3000 0x6000) = some (0x00, 0x00, [true, true, false, false, true, false]) := by decide  -- V1
theorem test_fields_T41_1 : fieldsView (input "1B2003" 0x3000 0x6000) = some (0x06, 0x04, [true, true, false, false, true, false]) := by decide  -- T41-1
theorem test_fields_T41_5 : fieldsView (input "FFDFFF" 0x3000 0x6000) = some (0x3F, 0x3C, [true, true, true, true, false, true]) := by decide  -- T41-5
theorem test_fields_T41_9 : fieldsView (input "040000" 0x3000 0x6000) = some (0x01, 0x00, [false, false, false, false, false, false]) := by decide  -- T41-9
theorem test_fields_T41_10 : fieldsView (input "800000" 0x3000 0x6000) = some (0x20, 0x20, [false, false, false, false, false, false]) := by decide  -- T41-10
theorem test_fields_T40_19 : fieldsView (input "fc0000" 0x3000 0x6000) = some (0x3F, 0x3C, [false, false, false, false, false, false]) := by decide  -- T40-19
theorem test_fields_T40_20 : fieldsView (input "4b101036" 0x3000 0x6000) = some (0x12, 0x10, [true, true, false, false, false, true]) := by decide  -- T40-20

/-- T40-18 and T40-19: upper and lower case give the same record. -/
theorem test_case : observe (input "FC0000" 0 0) = observe (input "fc0000" 0 0) := by decide

/-- R6: the offset is the parameter, not 0x90. -/
def otherBlock : State :=
  { params := { addrW := 8, xOffset := 0x12345 }, hex := "03F000".toList, pc := 0xFF, base := 0xF0, out := .error .invalidHex }

/-- R5, R185: base = 2^8 - 1 and the field 0xFFF do not wrap at ADDR_W = 8; 0xF0 + 0xFFF + 0x12345 = 0x13434. -/
theorem test_other_params : view { otherBlock with hex := "03CFFF".toList } =
    some (.simple, .baseRel, false, 4095, some 0x13434) := by decide

/-- R7 at the defaults: TA_W = 27. -/
theorem test_taW : Params.default.taW = 27 := by decide

/-- D12: the code of INVALID_FLAG_COMBINATION. -/
theorem test_err_port : (observe otherBlock).map DecodeResult.errPort = some 0b11 := by decide

/-- The most negative target address on its 27-bit port: -0x800 (T43-7). -/
theorem test_ta_port : (observe (input "032800" 0 0x6000)).map (fun o => match o with
    | .ok r => r.taPort Params.default
    | .error _ => none) = some (some 0x7FFF800#27) := by decide

/-- The first step after reset runs the word placed (R215's word of T46-6, by its number). -/
theorem test_fetch_word : view (State.reset.withFetchWord 24 0x332812) = some (.simple, .pcRel, true, -2030, some (-2030)) := by
  decide

theorem test_table_word_f3 : decodeTableWord 24 0x332812 = some (.f3SimpleB0P1 0x0C false false 0x812) := by decide
theorem test_table_word_f4 : decodeTableWord 32 0x3270A812 = some (.f4IndirectB1P1 0x0C false true 0x0A812) := by decide

/-- The encoder on the word of T46-6 and on a Format 4 word of R236's example. -/
theorem test_encode : encode (.f3SimpleB0P1 0x0C false false 0x812) = "332812".toList ∧
    encode (.f4SimpleB1P0 0x0C true true 0x0A812) = "33D0A812".toList := by decide

/-! ## WellFormed: an ill-formed term for each check -/

theorem smoke_input_empty : inputWellFormed "".toList = false := by decide
theorem smoke_input_digit : inputWellFormed "03260G".toList = false := by decide
theorem smoke_input_length : inputWellFormed "0326000".toList = false := by decide
theorem smoke_input_good : inputWellFormed "032600".toList = true ∧ inputWellFormed "4b101036".toList = true := by decide
theorem smoke_e_f3 : (Instr.f3SimpleB0P0 0 false true 0).eAgrees = false := by decide
theorem smoke_e_f4 : (Instr.f4SimpleB0P0 0 false false 0).eAgrees = false := by decide
theorem smoke_pair : (Instr.f3SimpleB1P1 0 false false 0).pairLegal = false := by decide
theorem smoke_wellFormed : (Instr.f3SimpleB0P1 0 false false 0).wellFormed = true ∧
    (Instr.f3SimpleB0P1 0 false true 0).wellFormed = false ∧ (Instr.f4IndirectB1P1 0 false true 0).wellFormed = false := by decide

/-! ## Witnesses: for each statement with hypotheses, inputs that meet them -/

theorem witness_F3SimpleSicClasses :
    (classify "300812".toList = .f3 0x300812 ∧ (0x300812#24 &&& 0x36000) = 0x0) ∧
    (classify "302812".toList = .f3 0x302812 ∧ (0x302812#24 &&& 0x36000) = 0x2000) ∧
    (classify "304812".toList = .f3 0x304812 ∧ (0x304812#24 &&& 0x36000) = 0x4000) ∧
    (classify "306812".toList = .f3 0x306812 ∧ (0x306812#24 &&& 0x36000) = 0x6000) := by decide

theorem witness_F3SimpleClasses :
    (classify "330812".toList = .f3 0x330812 ∧ (0x330812#24 &&& 0x36000) = 0x30000) ∧
    (classify "332812".toList = .f3 0x332812 ∧ (0x332812#24 &&& 0x36000) = 0x32000) ∧
    (classify "334812".toList = .f3 0x334812 ∧ (0x334812#24 &&& 0x36000) = 0x34000) := by decide

theorem witness_FlagCombinationErrors :
    (classify "336812".toList = .f3 0x336812 ∧ (0x336812#24 &&& 0x36000) = 0x36000) ∧
    (classify "326812".toList = .f3 0x326812 ∧ (0x326812#24 &&& 0x36000) = 0x26000) ∧
    (classify "3370A812".toList = .f4 0x3370A812 ∧ (0x3370A812#32 &&& 0x3600000) = 0x3600000) ∧
    (classify "3270A812".toList = .f4 0x3270A812 ∧ (0x3270A812#32 &&& 0x3600000) = 0x2600000) := by decide

theorem witness_F3ImmediateClasses :
    (classify "310812".toList = .f3 0x310812 ∧ (0x310812#24 &&& 0x36000) = 0x10000) ∧
    (classify "312812".toList = .f3 0x312812 ∧ (0x312812#24 &&& 0x36000) = 0x12000) ∧
    (classify "314812".toList = .f3 0x314812 ∧ (0x314812#24 &&& 0x36000) = 0x14000) ∧
    (classify "316812".toList = .f3 0x316812 ∧ (0x316812#24 &&& 0x36000) = 0x16000) := by decide

theorem witness_F3IndirectClasses :
    (classify "320812".toList = .f3 0x320812 ∧ (0x320812#24 &&& 0x36000) = 0x20000) ∧
    (classify "322812".toList = .f3 0x322812 ∧ (0x322812#24 &&& 0x36000) = 0x22000) ∧
    (classify "324812".toList = .f3 0x324812 ∧ (0x324812#24 &&& 0x36000) = 0x24000) := by decide

theorem witness_F4SimpleDirect4Classes :
    (classify "3010A812".toList = .f4 0x3010A812 ∧ (0x3010A812#32 &&& 0x3600000) = 0x0) ∧
    (classify "3030A812".toList = .f4 0x3030A812 ∧ (0x3030A812#32 &&& 0x3600000) = 0x200000) ∧
    (classify "3050A812".toList = .f4 0x3050A812 ∧ (0x3050A812#32 &&& 0x3600000) = 0x400000) ∧
    (classify "3070A812".toList = .f4 0x3070A812 ∧ (0x3070A812#32 &&& 0x3600000) = 0x600000) := by decide

theorem witness_F4SimpleClasses :
    (classify "3310A812".toList = .f4 0x3310A812 ∧ (0x3310A812#32 &&& 0x3600000) = 0x3000000) ∧
    (classify "3330A812".toList = .f4 0x3330A812 ∧ (0x3330A812#32 &&& 0x3600000) = 0x3200000) ∧
    (classify "3350A812".toList = .f4 0x3350A812 ∧ (0x3350A812#32 &&& 0x3600000) = 0x3400000) := by decide

theorem witness_F4ImmediateClasses :
    (classify "3110A812".toList = .f4 0x3110A812 ∧ (0x3110A812#32 &&& 0x3600000) = 0x1000000) ∧
    (classify "3130A812".toList = .f4 0x3130A812 ∧ (0x3130A812#32 &&& 0x3600000) = 0x1200000) ∧
    (classify "3150A812".toList = .f4 0x3150A812 ∧ (0x3150A812#32 &&& 0x3600000) = 0x1400000) ∧
    (classify "3170A812".toList = .f4 0x3170A812 ∧ (0x3170A812#32 &&& 0x3600000) = 0x1600000) := by decide

theorem witness_F4IndirectClasses :
    (classify "3210A812".toList = .f4 0x3210A812 ∧ (0x3210A812#32 &&& 0x3600000) = 0x2000000) ∧
    (classify "3230A812".toList = .f4 0x3230A812 ∧ (0x3230A812#32 &&& 0x3600000) = 0x2200000) ∧
    (classify "3250A812".toList = .f4 0x3250A812 ∧ (0x3250A812#32 &&& 0x3600000) = 0x2400000) := by decide

theorem witness_EncodeDecodeNormalises : decodeHex "4b101036".toList = .instr (.f4SimpleB0P0 0x12 false true 0x01036) := by decide

theorem witness_StepEstablishesLegalOutput : ∃ s t : State, step s = .next t ∧ ∃ r, t.out = .ok r :=
  ⟨input "03CFFF" 0 0xFFFFFF, _, rfl, _, rfl⟩

theorem witness_StepSettlesOutputs : ∃ s t : State, s.settled = false ∧ step s = .next t :=
  ⟨input "032600" 0x3000 0x6000, _, by decide, rfl⟩

theorem witness_StepRunsDecodedInstruction :
    decodeHex (input "032600" 0 0).hex = .instr (.f3SimpleB0P1 0 false false 0x600) ∧
    decodeHex (input "03260" 0 0).hex = .rejected .unsupportedFormat := by decide

theorem witness_WordAssembly : hexOk "00ffFF".toList = true ∧ "00ffFF".toList.length = 6 ∧ hexOk "F000000f".toList = true ∧
    "F000000f".toList.length = 8 := by decide
theorem witness_WordPortAndFormat : (∃ r, Reports (input "032600" 0 0) r ∧ r.fmt = .f3) ∧
    (∃ r, Reports (input "FFDFFFFF" 0 0) r ∧ r.fmt = .f4) := ⟨⟨_, rfl, by decide⟩, ⟨_, rfl, by decide⟩⟩
theorem witness_UnsupportedFormatExactly : hexOk "0326".toList = true ∧ "0326".toList.length ≠ 6 ∧ "0326".toList.length ≠ 8 := by decide

/-- One input for each clause: a bad character in a sequence of a good length, a bad count, bad flags, and none of these. -/
theorem witness_ErrorPriority_hex : BadHex (input "03260G" 0 0).hex := .inr ⟨'G', by decide, by
  intro v h
  have : ∀ cv ∈ hexDigits, cv.1 ≠ 'G' := by decide
  exact this _ h rfl⟩
theorem witness_ErrorPriority_empty : BadHex (input "" 0 0).hex := .inl rfl
/-- A sequence whose characters are all among the digits is not bad. -/
theorem not_badHex {cs : List Char} (h : cs ≠ []) (h2 : cs.all (fun c => (hexDigits.map (·.1)).contains c) = true) :
    ¬ BadHex cs := by
  rintro (h0 | ⟨c, hc, hv⟩)
  · exact h h0
  · obtain ⟨cv, hcv, rfl⟩ := List.mem_map.1 (List.contains_iff_mem.1 (List.all_eq_true.1 h2 c hc))
    exact hv cv.2 hcv
theorem witness_ErrorPriority_length : ¬ BadHex (input "03f00" 0 0).hex ∧ BadLength (input "03f00" 0 0).hex :=
  ⟨not_badHex (by decide) (by decide), by unfold BadLength; decide⟩
theorem witness_ErrorPriority_flags :
    ¬ BadHex (input "03F000" 0 0).hex ∧ ¬ BadLength (input "03F000" 0 0).hex ∧ BadFlags (input "03F000" 0 0).hex :=
  ⟨not_badHex (by decide) (by decide), by unfold BadLength; decide, by unfold BadFlags; decide⟩
theorem witness_ErrorPriority_flags_f4 : ¬ BadHex (input "00700000" 0 0).hex ∧ ¬ BadLength (input "00700000" 0 0).hex ∧
    BadFlags (input "00700000" 0 0).hex :=
  ⟨not_badHex (by decide) (by decide), by unfold BadLength; decide, by unfold BadFlags; decide⟩
theorem witness_ErrorPriority_ok :
    ¬ BadHex (input "01F000" 0 0).hex ∧ ¬ BadLength (input "01F000" 0 0).hex ∧ ¬ BadFlags (input "01F000" 0 0).hex :=
  ⟨not_badHex (by decide) (by decide), by unfold BadLength; decide, by unfold BadFlags; decide⟩

theorem witness_EffectiveOpcodeLaw : ∃ r, Reports (input "FFDFFF" 0 0) r ∧ r.opcode6 = 0x3F := ⟨_, rfl, by decide⟩

theorem witness_OpcodeSelectsNothing : classify "032600".toList = .f3 0x032600 ∧ classify "FF2600".toList = .f3 0xFF2600 ∧
    (0x032600#24).toNat % 2 ^ 18 = (0xFF2600#24).toNat % 2 ^ 18 ∧
    classify "4B101036".toList = .f4 0x4B101036 ∧ classify "03101036".toList = .f4 0x03101036 ∧
    (0x4B101036#32).toNat % 2 ^ 26 = (0x03101036#32).toNat % 2 ^ 26 := by decide

/-- One record for each row of the two tables. -/
theorem witness_ModeTable_and_QualifierTable :
    (∃ r, Reports (input "000000" 0 0) r ∧ r.n = false ∧ r.i = false ∧ r.fmt = .f3) ∧
    (∃ r, Reports (input "00300000" 0 0) r ∧ r.n = false ∧ r.i = false ∧ r.fmt = .f4 ∧ r.b = false ∧ r.p = true) ∧
    (∃ r, Reports (input "034000" 0 0) r ∧ r.n = true ∧ r.i = true ∧ r.b = true ∧ r.p = false) ∧
    (∃ r, Reports (input "016000" 0 0) r ∧ r.n = false ∧ r.i = true) ∧
    (∃ r, Reports (input "020000" 0 0) r ∧ r.n = true ∧ r.i = false ∧ r.b = false ∧ r.p = false ∧ r.fmt = .f3) ∧
    (∃ r, Reports (input "02100000" 0 0) r ∧ r.n = true ∧ r.i = false ∧ r.b = false ∧ r.p = false ∧ r.fmt = .f4) :=
  ⟨⟨_, rfl, by decide⟩, ⟨_, rfl, by decide⟩, ⟨_, rfl, by decide⟩, ⟨_, rfl, by decide⟩, ⟨_, rfl, by decide⟩, ⟨_, rfl, by decide⟩⟩

theorem witness_ModeQualifierPairs : (∃ r, Reports (input "022000" 0 0) r) ∧ pairOccurs .f4 .simpleDirect4 .baseRel = true :=
  ⟨⟨_, rfl⟩, by decide⟩

theorem witness_EBitSelectsNothing : classify "032600".toList = .f3 0x032600 ∧
    classify "033600".toList = .f3 (0x032600 ^^^ 0x1000) ∧ classify "4B101036".toList = .f4 0x4B101036 ∧
    classify "4B001036".toList = .f4 (0x4B101036 ^^^ 0x100000) := by decide

/-- One record for each clause, at the boundary of its range: 0x800, 0x7FF, and a disabled extender. -/
theorem witness_SignExtensionLaw :
    (∃ r, Reports (input "032800" 0 0) r ∧ r.dispSigned = true ∧ 0x800 ≤ r.dispRaw.toNat) ∧
    (∃ r, Reports (input "0227FF" 0 0) r ∧ r.dispSigned = true ∧ r.dispRaw.toNat < 0x800) ∧
    (∃ r, Reports (input "012800" 0 0) r ∧ r.dispSigned = false) :=
  ⟨⟨_, rfl, by decide⟩, ⟨_, rfl, by decide⟩, ⟨_, rfl, by decide⟩⟩

theorem witness_SignExtenderEnable : (∃ r, Reports (input "022FFF" 0 0) r ∧ r.fmt = .f3 ∧ r.b = false ∧ r.p = true ∧ r.n = true) ∧
    (∃ r, Reports (input "002FFF" 0 0) r ∧ r.fmt = .f3 ∧ r.b = false ∧ r.p = true ∧ r.n = false) :=
  ⟨⟨_, rfl, by decide⟩, ⟨_, rfl, by decide⟩⟩

theorem witness_Format4NeverSignExtended : ∃ r, Reports (input "4B1FFFFF" 0 0) r ∧ r.fmt = .f4 := ⟨_, rfl, by decide⟩

theorem witness_DisplacementRange : (∃ r, Reports (input "032800" 0 0) r ∧ r.disp = -2048) ∧
    (∃ r, Reports (input "4B1FFFFF" 0 0) r ∧ r.disp = 2 ^ 20 - 1) := ⟨⟨_, rfl, by decide⟩, ⟨_, rfl, by decide⟩⟩

theorem witness_TargetAddress : (∃ r, Reports (input "01A800" 0 0) r ∧ r.mode = .immediate) ∧
    (∃ r, Reports (input "03A800" 0 0) r ∧ r.mode ≠ .immediate) := ⟨⟨_, rfl, by decide⟩, ⟨_, rfl, by decide⟩⟩

/-- One record for each case of the bounds: T43-7, T44-18, T44-22, T43-18 and T44-15. -/
theorem witness_TargetAddressRange :
    (∃ r, Reports (input "032800" 0 0) r ∧ r.ta = some (-0x800) ∧ r.fmt = .f3 ∧ r.qual = .pcRel) ∧
    (∃ r, Reports (input "03CFFF" 0 0xFFFFFF) r ∧ r.ta = some 0x100108E ∧ r.fmt = .f3 ∧ r.qual = .baseRel) ∧
    (∃ r, Reports (input "030FFF" 0 0) r ∧ r.ta = some 0xFFF ∧ r.qual = .direct) ∧
    (∃ r, Reports (input "002FFF" 0 0) r ∧ r.ta = some 0xFFF ∧ r.mode = .simpleSic) ∧
    (∃ r, Reports (input "0B9FFFFF" 0 0) r ∧ r.ta = some 0x10008F ∧ r.fmt = .f4) :=
  ⟨⟨_, rfl, by decide⟩, ⟨_, rfl, by decide⟩, ⟨_, rfl, by decide⟩, ⟨_, rfl, by decide⟩, ⟨_, rfl, by decide⟩⟩

theorem witness_IndexBitAddsOffset : classify "032600".toList = .f3 0x032600 ∧ (0x032600#24).getLsbD 15 = false ∧
    classify "03A600".toList = .f3 (0x032600 ||| 0x8000) ∧ classify "4B101036".toList = .f4 0x4B101036 ∧
    (0x4B101036#32).getLsbD 23 = false ∧ classify "4B901036".toList = .f4 (0x4B101036 ||| 0x800000) := by decide

/-- R107 with R103: six digits give the front end its value; six characters with a non-digit give it none (R106's "03260G"). -/
theorem test_frontEnd_value : frontEnd "032600".toList = ⟨true, .six, some 0x032600⟩ ∧
    frontEnd "03260G".toList = ⟨false, .six, none⟩ := by decide

theorem witness_PcAndBaseUsedAsGiven : (∃ r, Reports (input "032600" 0x3000 0) r ∧ r.fmt = .f3 ∧ r.qual = .pcRel) ∧
    (∃ r, Reports (input "034600" 0 0x6000) r ∧ r.fmt = .f3 ∧ r.qual = .baseRel) := ⟨⟨_, rfl, by decide⟩, ⟨_, rfl, by decide⟩⟩

/-- A record with a target address and one without. -/
theorem witness_PortCodesDistinct : (∃ r, Reports (input "032600" 0x3000 0) r ∧ r.mode ≠ .immediate) ∧
    (∃ r, Reports (input "316812" 0 0) r ∧ r.mode = .immediate) := ⟨⟨_, rfl, by decide⟩, ⟨_, rfl, by decide⟩⟩

/-- A Format 4 record with PC_REL reads neither pc nor base, and an error reads neither. -/
theorem witness_InputsNotRead : (∃ o, step (input "03300800" 1 1) = .next { input "03300800" 1 1 with out := o } ∧
    ¬ ReadsPc o ∧ ¬ ReadsBase o) ∧ ¬ ReadsPc (.error .invalidHex) :=
  ⟨⟨_, rfl, (fun h => by cases h.1), (fun h => by cases h.1)⟩, id⟩

end Sys2Proof.Tests
end

/-! # The decode as one function of the word's fields

The 32 class meanings are tied to R200's sub-blocks once (`exec_eq_decodeFields`), and a step to the whole decode function
(`step_eq_decodeBlock`). What the outputs of a step satisfy is then read off `decodeFields`. -/

namespace Sys2Proof

/-! ## The decoder's instruction has the word's format, fields and word -/

/-- A Format 3 word's fields, with the four class bits named apart. -/
theorem f3Fields_eq_extract {w : Word24} {n i b p : Bool} (hn : (extract w).n = n) (hi : (extract w).i = i)
    (hb : (extract w).b = b) (hp : (extract w).p = p) :
    f3Fields (extract w).opcode6 n i (extract w).x b p (extract w).e (w.extractLsb' 0 12) = extract w := by
  subst hn hi hb hp
  rfl

/-- A Format 4 word's fields, with the four class bits named apart. -/
theorem f4Fields_eq_extract {w : Word32} {n i b p : Bool} (hn : (extract w).n = n) (hi : (extract w).i = i)
    (hb : (extract w).b = b) (hp : (extract w).p = p) :
    f4Fields (extract w).opcode6 n i (extract w).x b p (extract w).e (w.extractLsb' 0 20) = extract w := by
  subst hn hi hb hp
  simp [f4Fields, extract]

@[simp] theorem decodeF3_fmt (w : Word24) : (decodeF3 w).fmt = .f3 := by
  unfold decodeF3
  split <;> rfl

@[simp] theorem decodeF4_fmt (w : Word32) : (decodeF4 w).fmt = .f4 := by
  unfold decodeF4
  split <;> rfl

@[simp] theorem decodeF3_fields (w : Word24) : (decodeF3 w).fields = extract w := by
  unfold decodeF3
  split
  all_goals
    rename_i hn hi hb hp
    exact f3Fields_eq_extract hn hi hb hp

@[simp] theorem decodeF4_fields (w : Word32) : (decodeF4 w).fields = extract w := by
  unfold decodeF4
  split
  all_goals
    rename_i hn hi hb hp
    exact f4Fields_eq_extract hn hi hb hp

@[simp] theorem decodeF3_word (w : Word24) : (decodeF3 w).word = w.setWidth 32 := by
  simp [Instr.word, packF3_extract]

@[simp] theorem decodeF4_word (w : Word32) : (decodeF4 w).word = w := by
  simp [Instr.word, packF4_extract]

end Sys2Proof

namespace Sys2Proof.Machine

open Sys2Proof

/-! ## Each class meaning is R200's steps 5 to 9 on the fields of its word -/

/-- The displacement of a Format 3 field under a qualifier, as the class rules R210 to R225 write it. -/
def fieldDisp (d : Field12) : Qual → Int
  | .pcRel => sint12 d
  | .none | .baseRel | .direct | .absolute => val d

theorem signExtender_eq_fieldDisp (q : Qual) (d : Field12) :
    signExtender (signEnable .f3 q) (d.setWidth 20) = fieldDisp d q := by
  cases q with
  | pcRel => exact signExtender_f3 d
  | none | baseRel | direct | absolute => exact (signExtender_off _).trans (val_setWidth_f3 d)

/-- The decode of a Format 3 word's fields, in the words of the class rules. -/
theorem decodeFields_f3Fields (P : Params) (word : Word32) (op : Opcode6) (n i x b p e : Bool) (d : Field12) (pc base : Int) :
    decodeFields P .f3 word (f3Fields op n i x b p e d) pc base =
      match qualMux .f3 (modeMux .f3 n i) b p with
      | none => .error .invalidFlagCombination
      | some q => .ok (mkRecord .f3 word (f3Fields op n i x b p e d) (modeMux .f3 n i) q (signEnable .f3 q) (fieldDisp d q)
          (taAlu P .f3 (modeMux .f3 n i) q x pc base (fieldDisp d q))) := by
  simp only [← signExtender_eq_fieldDisp]
  rfl

/-- R200 and R210 to R245: every class meaning drives the outputs with the composition of the sub-blocks, and writes nothing
else. On the four class bits of each constructor the multiplexers compute, and leave the meaning of that class. -/
theorem exec_eq_decodeFields (i : Instr) (s : State) :
    exec i s = .next { s with out := decodeFields s.params i.fmt i.word i.fields (val s.pc) (val s.base) } := by
  cases i <;> simp only [Instr.fmt, Instr.fields, decodeFields_f3Fields] <;> rfl

/-- R200: a step drives the outputs with the decode of the inputs present, and writes nothing else. -/
theorem step_eq_decodeBlock (s : State) :
    step s = .next { s with out := decodeBlock s.params s.hex (val s.pc) (val s.base) } := by
  unfold decodeBlock
  cases h : classify s.hex with
  | rejected err => exact step_of_rejected h
  | f3 w => simp [step_of_f3 h, exec_eq_decodeFields]
  | f4 w => simp [step_of_f4 h, exec_eq_decodeFields]

/-- All that a step can answer. -/
theorem step_next {s t : State} (h : step s = .next t) :
    t = { s with out := decodeBlock s.params s.hex (val s.pc) (val s.base) } := by
  rw [step_eq_decodeBlock] at h
  injection h with h
  exact h.symm

/-! ## What the sub-blocks' answers satisfy -/

/-- R146: a qualifier the multiplexers answer occurs with its mode. -/
theorem pairOccurs_of_qualMux {fmt : Format} {n i b p : Bool} {q : Qual}
    (h : qualMux fmt (modeMux fmt n i) b p = some q) : pairOccurs fmt (modeMux fmt n i) q = true := by
  have hall : (qualMux fmt (modeMux fmt n i) b p).all (pairOccurs fmt (modeMux fmt n i)) = true := by
    clear h
    cases fmt <;> revert n i b p <;> decide
  simpa [h] using hall

theorem signEnable_iff {fmt : Format} {q : Qual} : signEnable fmt q = true ↔ fmt = .f3 ∧ q = .pcRel := by
  simp [signEnable]

/-- R162: an enabled sign-extension stays in its range. -/
theorem signExtender_signed_range (d : Field12) :
    -2048 ≤ signExtender true (d.setWidth 20) ∧ signExtender true (d.setWidth 20) ≤ 2047 := by
  rw [signExtender_f3]
  exact sint12_range d

/-- R165: the displacement's range. It needs no alignment: a value with bit 11 set is at least 2048. -/
theorem signExtender_range (enable : Bool) (v : Field20) :
    -2048 ≤ signExtender enable v ∧ signExtender enable v < 2 ^ 20 := by
  obtain ⟨h0, h1⟩ := val_range v
  unfold signExtender
  split
  next h =>
    have hbit : v.toNat.testBit 11 = true := by simp_all [BitVec.getLsbD]
    have hge : 2 ^ 11 ≤ v.toNat := Nat.ge_two_pow_of_testBit hbit
    simp only [val] at *
    omega
  next => omega

theorem two_pow_le_two_pow {m n : Nat} (h : m ≤ n) : (2 : Int) ^ m ≤ 2 ^ n := by
  exact_mod_cast Nat.pow_le_pow_right (by decide : 0 < 2) h

theorem indexOffset_range (P : Params) (x : Bool) : 0 ≤ indexOffset P x ∧ indexOffset P x < 2 ^ P.boundW := by
  unfold indexOffset
  split
  · exact val_range P.xOffset
  · exact ⟨Int.le_refl 0, Int.pow_pos (by decide)⟩

/-- R186: the target address's bounds. The base part is an address below `2 ^ boundW` plus a displacement, and the offset is
below `2 ^ boundW`, so three times that bound holds the sum. -/
theorem taAlu_range {P : Params} {fmt : Format} {mode : Mode} {q : Qual} {x : Bool} {pc base disp t : Int}
    (hpc : 0 ≤ pc ∧ pc < 2 ^ P.addrW) (hbase : 0 ≤ base ∧ base < 2 ^ P.addrW) (hdisp : -2048 ≤ disp ∧ disp < 2 ^ 20)
    (h : taAlu P fmt mode q x pc base disp = some t) : -2048 ≤ t ∧ t < 2 ^ (P.boundW + 2) := by
  have hta : t = taBase fmt q pc base disp + indexOffset P x := by
    unfold taAlu at h
    split at h <;> simp_all
  have haddr : (2 : Int) ^ P.addrW ≤ 2 ^ P.boundW := two_pow_le_two_pow (Nat.le_max_left _ _)
  have hfield : (2 : Int) ^ 20 ≤ 2 ^ P.boundW := two_pow_le_two_pow (Nat.le_max_right _ _)
  have htaBase : -2048 ≤ taBase fmt q pc base disp ∧ taBase fmt q pc base disp < 2 ^ P.boundW + 2 ^ P.boundW := by
    unfold taBase
    split <;> omega
  have hoff := indexOffset_range P x
  have hpow : (2 : Int) ^ (P.boundW + 2) = 4 * 2 ^ P.boundW := by
    rw [Int.pow_add, Int.mul_comm]
    rfl
  omega

/-! ## Every record of the decode function is legal -/

/-- A record comes from the qualifier that the multiplexers answer. -/
theorem decodeFields_ok {P : Params} {fmt : Format} {word : Word32} {f : Fields} {pc base : Int} {r : Record}
    (h : decodeFields P fmt word f pc base = .ok r) :
    ∃ q, qualMux fmt (modeMux fmt f.n f.i) f.b f.p = some q ∧
      r = mkRecord fmt word f (modeMux fmt f.n f.i) q (signEnable fmt q) (signExtender (signEnable fmt q) f.dispRaw)
        (taAlu P fmt (modeMux fmt f.n f.i) q f.x pc base (signExtender (signEnable fmt q) f.dispRaw)) := by
  unfold decodeFields at h
  split at h
  next => cases h
  next q hq =>
    injection h with h
    exact ⟨q, hq, h.symm⟩

theorem legalRecord_of_decodeFields {P : Params} {fmt : Format} {word : Word32} {f : Fields} {pc base : Int} {r : Record}
    (hword : fmt = .f3 → word.toNat < 2 ^ 24) (hfield : fmt = .f3 → ∃ d : Field12, f.dispRaw = d.setWidth 20)
    (hpc : 0 ≤ pc ∧ pc < 2 ^ P.addrW) (hbase : 0 ≤ base ∧ base < 2 ^ P.addrW)
    (h : decodeFields P fmt word f pc base = .ok r) : LegalRecord P r := by
  obtain ⟨q, hq, rfl⟩ := decodeFields_ok h
  exact
    { wordAligned := hword
      fieldAligned := fun hf => by
        obtain ⟨d, hd⟩ := hfield hf
        have := d.isLt
        simp only [mkRecord, hd, BitVec.toNat_setWidth]
        omega
      opcodeMasked := effOpcode_toNat f.opcode6
      pair := pairOccurs_of_qualMux hq
      signedIff := signEnable_iff
      signedRange := fun hs => by
        obtain ⟨d, hd⟩ := hfield (signEnable_iff.mp hs).1
        simp only [mkRecord] at hs ⊢
        rw [hs, hd]
        exact signExtender_signed_range d
      unsignedValue := fun hs => by
        simp only [mkRecord] at hs ⊢
        rw [hs]
        exact signExtender_off _
      taValidIff := taAlu_isSome ..
      taRange := fun _ => taAlu_range hpc hbase (signExtender_range _ _)
      aUnknown := rfl }

theorem legalRecord_of_decodeBlock {P : Params} {hex : List Char} {pc base : Int} {r : Record}
    (hpc : 0 ≤ pc ∧ pc < 2 ^ P.addrW) (hbase : 0 ≤ base ∧ base < 2 ^ P.addrW)
    (h : decodeBlock P hex pc base = .ok r) : LegalRecord P r := by
  unfold decodeBlock at h
  split at h
  next => cases h
  next w _ =>
    refine legalRecord_of_decodeFields (fun _ => ?_) (fun _ => ⟨w.extractLsb' 0 12, rfl⟩) hpc hbase h
    have := w.isLt
    rw [BitVec.toNat_setWidth]
    omega
  next w _ => exact legalRecord_of_decodeFields (fun hf => by cases hf) (fun hf => by cases hf) hpc hbase h

/-! ## The port codes (R32, R260) -/

/-- The `ta_valid` and `a_known` ports of a legal record (R184, R202). -/
theorem ports_of_legalRecord {P : Params} {r : Record} (h : LegalRecord P r) :
    r.taValidPort = (if r.mode = .immediate then 0#1 else 1#1) ∧ r.aKnownPort = 0#1 := by
  constructor
  · have hv := h.taValidIff
    unfold Record.taValidPort
    cases hb : r.taValid <;> simp_all
  · simp [Record.aKnownPort, h.aUnknown]

theorem modePort_injective (a b : Mode) : modePort a = modePort b → a = b := by
  cases a <;> cases b <;> decide

theorem qualPort_injective (a b : Qual) : qualPort a = qualPort b → a = b := by
  cases a <;> cases b <;> decide

theorem fmtPort_injective (a b : Format) : fmtPort a = fmtPort b → a = b := by
  cases a <;> cases b <;> decide

theorem errPort_error_injective (a b : DecodeError) :
    DecodeResult.errPort (.error a) = DecodeResult.errPort (.error b) → a = b := by
  cases a <;> cases b <;> decide

theorem errPort_error_ne_zero (err : DecodeError) : 0b00#2 ≠ DecodeResult.errPort (.error err) := by
  cases err <;> decide

theorem modePort_le (m : Mode) : (modePort m).toNat ≤ 0b100 := by
  cases m <;> decide

theorem qualPort_le (q : Qual) : (qualPort q).toNat ≤ 0b100 := by
  cases q <;> decide

end Sys2Proof.Machine

/-! # The obligations of 10_state.md -/

namespace Sys2Proof.Proofs

open Sys2Proof Sys2Proof.Machine Sys2Proof.Claims

/-- Settles O4: a step's output is the decode function's, whose records are legal. -/
theorem stepEstablishesLegalOutput : Obligations.StepEstablishesLegalOutput := by
  intro s t h r hr
  obtain rfl := step_next h
  exact legalRecord_of_decodeBlock (val_range s.pc) (val_range s.base) hr

/-- Settles O6: a step overwrites the output with the decode of inputs that it leaves alone. -/
theorem stepSettlesOutputs : Obligations.StepSettlesOutputs := by
  intro s t h
  obtain rfl := step_next h
  simp [State.settled, val]

/-- Settles O8: the output every class meaning writes is named in `exec_eq_decodeFields`. -/
theorem execWritesOnlyOutputs : Obligations.ExecWritesOnlyOutputs :=
  fun i s => ⟨_, exec_eq_decodeFields i s⟩

/-- Settles O44: the codes are finite tables, and the ports of a reported record are those of a legal one (O4). -/
theorem portCodesDistinct : Obligations.PortCodesDistinct :=
  ⟨fun _ => rfl, rfl, rfl, rfl, rfl, modePort_injective, qualPort_injective, fmtPort_injective, errPort_error_injective,
    fun _ => errPort_error_ne_zero, modePort_le, qualPort_le,
    fun s r h => ports_of_legalRecord (stepEstablishesLegalOutput s _ h r rfl)⟩

end Sys2Proof.Proofs

/-! # The word of a digit sequence (R51, R103)

Read from the first digit, a sequence's value is that digit at its place above the value of the rest (`hexValue_cons`), which
lies below that place (`hexValue_lt`). So each place holds its digit, and the whole fits in a word of 4 bits a digit. -/

namespace Sys2Proof

/-- R103: the value as the sum of the digits at their places. -/
theorem hexValue_eq_sum (cs : List Char) :
    hexValue cs = ((List.range cs.length).map fun k => digitValue (cs.getD k '0') * 16 ^ (cs.length - 1 - k)).sum := by
  induction cs with
  | nil => rfl
  | cons c cs ih =>
    simp [hexValue_cons, ih, List.range_succ_eq_map, Function.comp_def, Nat.sub_sub, Nat.add_comm 1]

/-- A digit in front of a value changes no nibble below that digit's place. -/
theorem nibble_of_mul_pow_add (d v : Nat) {m n : Nat} (h : m < n) : (d * 16 ^ n + v) / 16 ^ m % 16 = v / 16 ^ m % 16 := by
  obtain ⟨j, rfl⟩ := Nat.exists_eq_add_of_lt h
  have hfront : d * 16 ^ (m + j + 1) = 16 ^ m * (16 * (d * 16 ^ j)) := by
    rw [Nat.pow_succ, Nat.pow_add]
    ac_rfl
  rw [hfront, Nat.mul_add_div (Nat.pow_pos (by decide)), Nat.mul_add_mod]

/-- R51: the k-th digit is the nibble at its place. -/
theorem hexValue_nibble (cs : List Char) {k : Nat} (hk : k < cs.length) :
    hexValue cs / 16 ^ (cs.length - 1 - k) % 16 = digitValue (cs.getD k '0') := by
  induction cs generalizing k with
  | nil => cases hk
  | cons c cs ih =>
    rw [hexValue_cons, List.length_cons, Nat.add_sub_cancel]
    cases k with
    | zero =>
      rw [Nat.sub_zero, Nat.mul_comm, Nat.mul_add_div (Nat.pow_pos (by decide)), Nat.div_eq_of_lt (hexValue_lt cs), Nat.add_zero,
        Nat.mod_eq_of_lt (digitValue_lt c), List.getD_cons_zero]
    | succ k =>
      have hk' : k < cs.length := Nat.lt_of_succ_lt_succ hk
      rw [nibble_of_mul_pow_add _ _ (by omega), List.getD_cons_succ, ← ih hk', Nat.sub_right_comm, Nat.sub_sub]

/-- A word of 4 bits for each digit holds the whole value. -/
theorem toNat_ofNat_hexValue {cs : List Char} {n : Nat} (h : cs.length = n) :
    (BitVec.ofNat (4 * n) (hexValue cs)).toNat = hexValue cs := by
  have hlt : hexValue cs < 2 ^ (4 * n) := by
    rw [Nat.pow_mul, ← h]
    exact hexValue_lt cs
  rw [BitVec.toNat_ofNat, Nat.mod_eq_of_lt hlt]

theorem classify_of_length_six {cs : List Char} (hok : hexOk cs = true) (hlen : cs.length = 6) :
    classify cs = .f3 (BitVec.ofNat 24 (hexValue cs)) := by
  simp [classify, hok, hlen]

theorem classify_of_length_eight {cs : List Char} (hok : hexOk cs = true) (hlen : cs.length = 8) :
    classify cs = .f4 (BitVec.ofNat 32 (hexValue cs)) := by
  simp [classify, hok, hlen]

end Sys2Proof

/-! # The obligations of 20_memory.md -/

namespace Sys2Proof.Proofs

open Sys2Proof Sys2Proof.Machine Sys2Proof.Claims

/-- Settles O21: each digit is the nibble at its place, and 6 or 8 digits fill the word of their format. -/
theorem wordAssembly : Obligations.WordAssembly := by
  intro cs hok
  refine ⟨hexValue_eq_sum cs, fun k hk => ?nibble, fun h6 => ?f3, fun h8 => ?f4⟩
  case nibble =>
    have hplace : 4 * cs.length - 4 - 4 * k = 4 * (cs.length - 1 - k) := by omega
    rw [hplace, Nat.pow_mul]
    exact hexValue_nibble cs hk
  case f3 => exact ⟨_, classify_of_length_six hok h6, toNat_ofNat_hexValue h6⟩
  case f4 => exact ⟨_, classify_of_length_eight hok h8, toNat_ofNat_hexValue h8⟩

end Sys2Proof.Proofs

/-! # The layouts read and written back (R71, R72)

The extractor's fields are the places of the word (`extract_opcode6_toNat`, `extract_flags`, `extract_dispRaw_toNat`), and
the word packed from an instruction's fields is decoded to that instruction (`decodeF3_packF3`, `decodeF4_packF4`). The class
bits of a word select its row of the table (`maskedF3_eq`, `maskedF4_eq`). -/

namespace Sys2Proof

/-! ## The extractor on a word of `W` bits -/

theorem extract_opcode6_toNat {W : Nat} (hW : 6 ≤ W) (w : BitVec W) : (extract w).opcode6.toNat = w.toNat / 2 ^ (W - 6) := by
  have hlt : w.toNat / 2 ^ (W - 6) < 2 ^ 6 := by
    rw [Nat.div_lt_iff_lt_mul (Nat.two_pow_pos _), ← Nat.pow_add, Nat.add_sub_cancel' hW]
    exact w.isLt
  rw [extract, BitVec.extractLsb'_toNat, Nat.shiftRight_eq_div_pow, Nat.mod_eq_of_lt hlt]

theorem extract_flags {W : Nat} (hW : 12 ≤ W) (w : BitVec W) :
    [(extract w).n, (extract w).i, (extract w).x, (extract w).b, (extract w).p, (extract w).e] =
      (List.range 6).map (fun k => w.getMsbD (6 + k)) := by
  have hmsb (k : Nat) (hk : k < 12) : w.getMsbD k = w.getLsbD (W - (k + 1)) := by
    rw [BitVec.getMsbD_eq_getLsbD, decide_eq_true (by omega), Bool.true_and, Nat.sub_sub, Nat.add_comm 1]
  simp [List.range_succ, extract, hmsb]

theorem extract_dispRaw_toNat {W : Nat} (hW : W - 12 ≤ 20) (w : BitVec W) :
    (extract w).dispRaw.toNat = w.toNat % 2 ^ (W - 12) := by
  rw [extract, BitVec.toNat_setWidth_of_le hW, BitVec.extractLsb'_toNat, Nat.shiftRight_zero]

/-- Words that agree below the opcode have the same fields but for the opcode. -/
theorem extract_eq_of_mod_eq {W : Nat} (hW : 12 ≤ W) {w w' : BitVec W} (h : w.toNat % 2 ^ (W - 6) = w'.toNat % 2 ^ (W - 6)) :
    extract w' = { extract w with opcode6 := w'.extractLsb' (W - 6) 6 } := by
  have hbit (k : Nat) (hk : k < W - 6) : w'.getLsbD k = w.getLsbD k := by
    have hk' := congrArg (Nat.testBit · k) h
    simp only [Nat.testBit_mod_two_pow, hk, decide_true, Bool.true_and] at hk'
    exact hk'.symm
  have hfield : w'.extractLsb' 0 (W - 12) = w.extractLsb' 0 (W - 12) := by
    apply BitVec.eq_of_getLsbD_eq
    intro k hk
    simp [hk, hbit k (by omega)]
  simp (disch := omega) only [extract, hbit, hfield]

/-- The word with its e bit the other way has the same fields but for e. -/
theorem extract_xor_eBit {W : Nat} (hW : 12 ≤ W) (w : BitVec W) :
    extract (w ^^^ BitVec.twoPow W (W - 12)) = { extract w with e := !(extract w).e } := by
  have hbit (k : Nat) (hk : W - 12 ≠ k) : (w ^^^ BitVec.twoPow W (W - 12)).getLsbD k = w.getLsbD k := by
    simp [BitVec.getLsbD_twoPow, hk]
  have he : (w ^^^ BitVec.twoPow W (W - 12)).getLsbD (W - 12) = !w.getLsbD (W - 12) := by
    simp [show W - 12 < W by omega]
  have hslice (start len : Nat) (h : W - 12 < start ∨ start + len ≤ W - 12) :
      (w ^^^ BitVec.twoPow W (W - 12)).extractLsb' start len = w.extractLsb' start len := by
    apply BitVec.eq_of_getLsbD_eq
    intro k hk
    rw [BitVec.getLsbD_extractLsb', BitVec.getLsbD_extractLsb', hbit _ (by omega)]
  simp (disch := omega) only [extract, hbit, he, hslice]

/-! ## The decoder on a packed word -/

/-- The displacement field of a packed Format 3 word. -/
theorem extractLsb'_packF3 (op : Opcode6) (n i x b p e : Bool) (d : Field12) :
    (packF3 (f3Fields op n i x b p e d)).extractLsb' 0 12 = d := by
  have h := congrArg (fun f => f.dispRaw.setWidth 12) (extract_packF3 op n i x b p e d)
  simpa [extract, f3Fields] using h

/-- The address field of a packed Format 4 word. -/
theorem extractLsb'_packF4 (op : Opcode6) (n i x b p e : Bool) (d : Field20) :
    (packF4 (f4Fields op n i x b p e d)).extractLsb' 0 20 = d := by
  have h := congrArg Fields.dispRaw (extract_packF4 op n i x b p e d)
  simpa [extract, f4Fields] using h

/-- Each Format 3 class is the one whose n, i, b and p its own word carries, and its operands are the rest of that word. -/
theorem decodeF3_packF3 {i : Instr} (h : i.fmt = .f3) : decodeF3 (packF3 i.fields) = i := by
  cases i <;> cases h
  all_goals
    simp only [Instr.fields, decodeF3, extract_packF3, extractLsb'_packF3]
    rfl

/-- Each Format 4 class is the one whose n, i, b and p its own word carries, and its operands are the rest of that word. -/
theorem decodeF4_packF4 {i : Instr} (h : i.fmt = .f4) : decodeF4 (packF4 i.fields) = i := by
  cases i <;> cases h
  all_goals
    simp only [Instr.fields, decodeF4, extract_packF4, extractLsb'_packF4]
    rfl

theorem classify_encode_f3 {i : Instr} (h : i.fmt = .f3) : classify (encode i) = .f3 (packF3 i.fields) := by
  simp only [encode, Instr.word, h, Format.digits, classify_hexString_f3]
  rw [BitVec.ofNat_toNat, BitVec.setWidth_setWidth_of_le _ (by decide), BitVec.setWidth_eq]

theorem classify_encode_f4 {i : Instr} (h : i.fmt = .f4) : classify (encode i) = .f4 (packF4 i.fields) := by
  simp [encode, Instr.word, h, Format.digits, classify_hexString_f4]

/-! ## The table's words and rows -/

theorem classify_tableHex_f3 (w : Nat) : classify (tableHex 24 w) = .f3 (BitVec.ofNat 24 w) := by
  have hword : BitVec.ofNat 24 (w % 2 ^ 24) = BitVec.ofNat 24 w := by simp [← BitVec.toNat_inj]
  rw [← hword]
  exact classify_hexString_f3 (w % 2 ^ 24)

theorem classify_tableHex_f4 (w : Nat) : classify (tableHex 32 w) = .f4 (BitVec.ofNat 32 w) := by
  have hword : BitVec.ofNat 32 (w % 2 ^ 32) = BitVec.ofNat 32 w := by simp [← BitVec.toNat_inj]
  rw [← hword]
  exact classify_hexString_f4 (w % 2 ^ 32)

theorem decodeTableWord_of_f3 {k w : Nat} {v : Word24} (h : classify (tableHex k w) = .f3 v) :
    decodeTableWord k w = some (decodeF3 v) := by
  simp [decodeTableWord, decodeHex_of_f3 h]

theorem decodeTableWord_of_f4 {k w : Nat} {v : Word32} (h : classify (tableHex k w) = .f4 v) :
    decodeTableWord k w = some (decodeF4 v) := by
  simp [decodeTableWord, decodeHex_of_f4 h]

/-- The table's rows of the format whose bits are the masked word `m`. -/
def rowsWithBits (fmt : Format) (m : Word32) : List TableRow :=
  (tableF3 ++ tableF4).filter fun r => r.fmt == fmt && m == r.bits

/-- All rows of a format have one mask, so which of them a word hits is read off the masked word. -/
theorem filter_hits {fmt : Format} {mask : Word32} (hmask : ∀ r ∈ tableF3 ++ tableF4, r.fmt = fmt → r.mask = mask)
    (w : Word32) :
    (tableF3 ++ tableF4).filter (·.hits fmt w) = rowsWithBits fmt (w &&& mask) := by
  apply List.filter_congr
  intro r hr
  unfold TableRow.hits
  by_cases hf : r.fmt = fmt
  · rw [hmask r hr hf]
  · simp [beq_false_of_ne hf]

/-- The layout that R71 and R72 share, over a field of any width `k`. -/
def layout {k : Nat} (f : Fields) (d : BitVec k) : BitVec (6 + 1 + 1 + 1 + 1 + 1 + 1 + k) :=
  f.opcode6 ++ BitVec.ofBool f.n ++ BitVec.ofBool f.i ++ BitVec.ofBool f.x ++ BitVec.ofBool f.b ++ BitVec.ofBool f.p
    ++ BitVec.ofBool f.e ++ d

/-- The fields of the conjunction of two words. -/
def Fields.and (f g : Fields) : Fields :=
  { opcode6 := f.opcode6 &&& g.opcode6, n := f.n && g.n, i := f.i && g.i, x := f.x && g.x, b := f.b && g.b, p := f.p && g.p
    e := f.e && g.e, dispRaw := f.dispRaw &&& g.dispRaw }

theorem layout_and {k : Nat} (f g : Fields) (d d' : BitVec k) : layout f d &&& layout g d' = layout (f.and g) (d &&& d') := by
  simp only [layout, Fields.and, BitVec.and_append, BitVec.ofBool_and_ofBool]

theorem packF3_and (f g : Fields) : packF3 f &&& packF3 g = packF3 (f.and g) :=
  (layout_and f g _ _).trans (congrArg (layout (f.and g)) BitVec.setWidth_and.symm)

theorem packF4_and (f g : Fields) : packF4 f &&& packF4 g = packF4 (f.and g) := layout_and f g _ _

/-- The mask of Format 3 is the layout R71 with the class bits n, i, b and p set, so it keeps these bits alone. -/
theorem maskedF3_eq (w : Word24) : w.setWidth 32 &&& 0x36000 =
    (packF3 (f3Fields 0 (extract w).n (extract w).i false (extract w).b (extract w).p false 0)).setWidth 32 := by
  have hmask : (0x36000 : Word32) = (packF3 (f3Fields 0 true true false true true false 0)).setWidth 32 := rfl
  have hand := packF3_and (extract w) (f3Fields 0 true true false true true false 0)
  rw [packF3_extract] at hand
  rw [hmask, ← BitVec.setWidth_and, hand]
  simp [Fields.and, f3Fields]

/-- The mask of Format 4 is the layout R72 with the class bits n, i, b and p set, so it keeps these bits alone. -/
theorem maskedF4_eq (w : Word32) : w &&& 0x3600000 =
    packF4 (f4Fields 0 (extract w).n (extract w).i false (extract w).b (extract w).p false 0) := by
  have hmask : (0x3600000 : Word32) = packF4 (f4Fields 0 true true false true true false 0) := rfl
  have hand := packF4_and (extract w) (f4Fields 0 true true false true true false 0)
  rw [packF4_extract] at hand
  rw [hmask, hand]
  simp [Fields.and, f4Fields]

/-- In each case of the decoder the class bits are known, and so is the one row with them. -/
theorem rows_of_word24 (w : Word24) :
    ((tableF3 ++ tableF4).filter (·.hits .f3 (w.setWidth 32))).map (·.mnemonic) = [(decodeF3 w).mnemonic] := by
  rw [filter_hits (mask := 0x36000) (by decide), maskedF3_eq]
  unfold decodeF3
  split
  all_goals
    rename_i hn hi hb hp
    rw [hn, hi, hb, hp]
    rfl

/-- In each case of the decoder the class bits are known, and so is the one row with them. -/
theorem rows_of_word32 (w : Word32) :
    ((tableF3 ++ tableF4).filter (·.hits .f4 w)).map (·.mnemonic) = [(decodeF4 w).mnemonic] := by
  rw [filter_hits (mask := 0x3600000) (by decide), maskedF4_eq]
  unfold decodeF4
  split
  all_goals
    rename_i hn hi hb hp
    rw [hn, hi, hb, hp]
    rfl

end Sys2Proof

/-! # What the opcode and the e bit enter (R76, R78, R77)

No multiplexer reads them, so they pass from the fields of the word to their own ports of the output. -/

namespace Sys2Proof.Machine

open Sys2Proof Sys2Proof.Claims

theorem step_eq_decodeFields_of_f3 {s : State} {w : Word24} (h : classify s.hex = .f3 w) :
    step s = .next { s with out := decodeFields s.params .f3 (w.setWidth 32) (extract w) (val s.pc) (val s.base) } := by
  simp [step_of_f3 h, exec_eq_decodeFields]

theorem step_eq_decodeFields_of_f4 {s : State} {w : Word32} (h : classify s.hex = .f4 w) :
    step s = .next { s with out := decodeFields s.params .f4 w (extract w) (val s.pc) (val s.base) } := by
  simp [step_of_f4 h, exec_eq_decodeFields]

theorem effOpcode_eq_ofNat (op : Opcode6) : effOpcode op = BitVec.ofNat 8 (op.toNat / 4 * 4) := by
  revert op
  decide

/-- Another opcode enters the output at its own ports alone. -/
theorem decodeFields_withOpcode (P : Params) (fmt : Format) (word word' : Word32) (f : Fields) (op : Opcode6) (pc base : Int) :
    decodeFields P fmt word' { f with opcode6 := op } pc base = withOpcode op word' (decodeFields P fmt word f pc base) := by
  unfold decodeFields
  cases qualMux fmt (modeMux fmt f.n f.i) f.b f.p with
  | none => rfl
  | some q => simp [withOpcode, mkRecord, effOpcode_eq_ofNat]

/-- The e bit enters the output at its own ports alone. -/
theorem decodeFields_flipE (P : Params) (fmt : Format) (word mask : Word32) (f : Fields) (pc base : Int) :
    decodeFields P fmt (word ^^^ mask) { f with e := !f.e } pc base = flipE mask (decodeFields P fmt word f pc base) := by
  unfold decodeFields
  cases qualMux fmt (modeMux fmt f.n f.i) f.b f.p <;> rfl

end Sys2Proof.Machine

/-! # The obligations of 30_encoding.md -/

namespace Sys2Proof.Proofs

open Sys2Proof Sys2Proof.Machine Sys2Proof.Claims

/-- Settles O2: the characters are classified as the packed word, whose class and fields are the instruction's. -/
theorem decodeEncodeRoundTrip : Obligations.DecodeEncodeRoundTrip := by
  intro i
  cases h : i.fmt with
  | f3 => rw [decodeHex_of_f3 (classify_encode_f3 h), decodeF3_packF3 h]
  | f4 => rw [decodeHex_of_f4 (classify_encode_f4 h), decodeF4_packF4 h]

/-- Settles O26: the extractor's slices at the two widths. -/
theorem extractorSlices : Obligations.ExtractorSlices :=
  ⟨fun w => ⟨extract_opcode6_toNat (by decide) w, extract_flags (by decide) w, extract_dispRaw_toNat (by decide) w⟩,
    fun w => ⟨extract_opcode6_toNat (by decide) w, extract_flags (by decide) w, extract_dispRaw_toNat (by decide) w⟩⟩

/-- Settles O28: the two words have the same fields but for the opcode, which no multiplexer reads. -/
theorem opcodeSelectsNothing : Obligations.OpcodeSelectsNothing := by
  refine ⟨fun s hex' w w' h h' hlow => ⟨_, step_eq_decodeFields_of_f3 h, ?f3⟩,
    fun s hex' w w' h h' hlow => ⟨_, step_eq_decodeFields_of_f4 h, ?f4⟩⟩
  case f3 =>
    rw [step_eq_decodeFields_of_f3 (s := { s with hex := hex' }) h', extract_eq_of_mod_eq (by decide) hlow,
      decodeFields_withOpcode]
  case f4 =>
    rw [step_eq_decodeFields_of_f4 (s := { s with hex := hex' }) h', extract_eq_of_mod_eq (by decide) hlow,
      decodeFields_withOpcode]

/-- Settles O32: the two words have the same fields but for e, which no multiplexer reads. -/
theorem eBitSelectsNothing : Obligations.EBitSelectsNothing := by
  refine ⟨fun s hex' w h h' => ⟨_, step_eq_decodeFields_of_f3 h, ?f3⟩,
    fun s hex' w h h' => ⟨_, step_eq_decodeFields_of_f4 h, ?f4⟩⟩
  case f3 =>
    have hfields : extract (w ^^^ 0x1000) = { extract w with e := !(extract w).e } := extract_xor_eBit (by decide) w
    rw [step_eq_decodeFields_of_f3 (s := { s with hex := hex' }) h', hfields, BitVec.setWidth_xor, decodeFields_flipE]
    rfl
  case f4 =>
    have hfields : extract (w ^^^ 0x100000) = { extract w with e := !(extract w).e } := extract_xor_eBit (by decide) w
    rw [step_eq_decodeFields_of_f4 (s := { s with hex := hex' }) h', hfields, decodeFields_flipE]

/-- Settles O43: the masked word is the class bits, and the class has the one row with them. -/
theorem oneTableRowPerWord : Obligations.OneTableRowPerWord := ⟨rows_of_word24, rows_of_word32⟩

/-- Settles O45: the placed digits are classified as the word. -/
theorem fetchWordRuns : Obligations.FetchWordRuns :=
  fun _ w => ⟨step_of_f3 (classify_tableHex_f3 w), step_of_f4 (classify_tableHex_f4 w),
    decodeTableWord_of_f3 (classify_tableHex_f3 w), decodeTableWord_of_f4 (classify_tableHex_f4 w)⟩

end Sys2Proof.Proofs

/-! # The format classifier (R100 to R107)

Each answer of the classifier says what the characters are (`of_classify_f3`, `of_classify_f4`,
`classify_eq_unsupportedFormat_iff`). The 22 digits are a finite list (`hexDigit?_eq_some_iff`), from which the encoder's
characters of a value are read (`hexString_hexValue`). -/

namespace Sys2Proof

open Sys2Proof.Claims

/-! ## The hex digits (R100) -/

/-- The last of the ranges of R100 ends at `f`. -/
theorem toNat_lt_of_hexDigit? {c : Char} {v : Nat} (h : hexDigit? c = some v) : c.toNat < 0x67 := by
  refine Nat.lt_of_not_le fun hc => ?_
  simp (disch := omega) only [hexDigit?, if_neg] at h
  cases h

/-- The code-point ranges of R100 and its list of characters give the same digits. -/
theorem hexDigit?_eq_some_iff {c : Char} {v : Nat} : hexDigit? c = some v ↔ (c, v) ∈ hexDigits := by
  constructor
  case mp =>
    intro h
    have hall : ∀ n : Fin 0x67, (hexDigit? (Char.ofNat n)).all fun u => hexDigits.contains (Char.ofNat n, u) := by decide
    have hc := hall ⟨c.toNat, toNat_lt_of_hexDigit? h⟩
    simpa [h] using hc
  case mpr =>
    have hall : ∀ cv ∈ hexDigits, hexDigit? cv.1 = some cv.2 := by decide
    exact hall (c, v)

/-- R102: the encoder's character of a digit's value is the digit in upper case. -/
theorem digitChar_digitValue {c : Char} (h : isHexDigit c = true) : digitChar (digitValue c) = upcase c := by
  obtain ⟨v, hv⟩ := Option.isSome_iff_exists.mp h
  have hall : ∀ cv ∈ hexDigits, digitChar cv.2 = upcase cv.1 := by decide
  rw [digitValue, hv]
  exact hall (c, v) (hexDigit?_eq_some_iff.mp hv)

/-! ## Digits written back (R51, R102) -/

/-- A digit in front of a value changes none of the characters written below its place. -/
theorem hexString_mul_pow_add (d v : Nat) {k n : Nat} (h : k ≤ n) : hexString k (d * 16 ^ n + v) = hexString k v := by
  induction k with
  | zero => rfl
  | succ k ih => rw [hexString, hexString, nibble_of_mul_pow_add d v h, ih (Nat.le_of_succ_le h)]

/-- Writing the value of digits gives the digits back in upper case. -/
theorem hexString_hexValue {cs : List Char} (h : cs.all isHexDigit = true) :
    hexString cs.length (hexValue cs) = normalise cs := by
  induction cs with
  | nil => rfl
  | cons c cs ih =>
    obtain ⟨hc, hcs⟩ := Bool.and_eq_true_iff.mp h
    have htop : hexValue (c :: cs) / 16 ^ cs.length % 16 = digitValue c := hexValue_nibble (c :: cs) (Nat.succ_pos _)
    rw [List.length_cons, hexString, htop, digitChar_digitValue hc, hexValue_cons, hexString_mul_pow_add _ _ (Nat.le_refl _),
      ih hcs]
    rfl

theorem hexString_of_hexOk {cs : List Char} {n : Nat} (hok : hexOk cs = true) (hlen : cs.length = n) :
    hexString n (hexValue cs) = normalise cs := by
  rw [← hlen]
  exact hexString_hexValue (Bool.and_eq_true_iff.mp hok).2

/-! ## What the classifier's answers say of the characters (R104, R105) -/

theorem of_classify_f3 {cs : List Char} {w : Word24} (h : classify cs = .f3 w) :
    hexOk cs = true ∧ cs.length = 6 ∧ w.toNat = hexValue cs := by
  rcases classify_cases cs with ⟨-, h'⟩ | ⟨hok, hlen, h'⟩ | ⟨-, -, h'⟩ | ⟨-, -, -, h'⟩ <;> cases h.symm.trans h'
  exact ⟨hok, hlen, toNat_ofNat_hexValue hlen⟩

theorem of_classify_f4 {cs : List Char} {w : Word32} (h : classify cs = .f4 w) :
    hexOk cs = true ∧ cs.length = 8 ∧ w.toNat = hexValue cs := by
  rcases classify_cases cs with ⟨-, h'⟩ | ⟨-, -, h'⟩ | ⟨hok, hlen, h'⟩ | ⟨-, -, -, h'⟩ <;> cases h.symm.trans h'
  exact ⟨hok, hlen, toNat_ofNat_hexValue hlen⟩

theorem classify_eq_unsupportedFormat_iff {cs : List Char} :
    classify cs = .rejected .unsupportedFormat ↔ hexOk cs = true ∧ cs.length ≠ 6 ∧ cs.length ≠ 8 := by
  rcases classify_cases cs with ⟨hok, h⟩ | ⟨hok, hlen, h⟩ | ⟨hok, hlen, h⟩ | ⟨hok, h6, h8, h⟩
  all_goals simp [*]

/-! ## The encoder on a decoded word -/

theorem encode_decodeF3 (w : Word24) : encode (decodeF3 w) = hexString 6 w.toNat := by
  rw [encode, decodeF3_fmt, decodeF3_word, BitVec.toNat_setWidth_of_le (by decide)]
  rfl

theorem encode_decodeF4 (w : Word32) : encode (decodeF4 w) = hexString 8 w.toNat := by
  rw [encode, decodeF4_fmt, decodeF4_word]
  rfl

end Sys2Proof

namespace Sys2Proof.Machine

open Sys2Proof Sys2Proof.Claims

/-- A step's output is given by the decode function. -/
theorem step_eq_next_iff {s : State} {o : DecodeResult} :
    step s = .next { s with out := o } ↔ decodeBlock s.params s.hex (val s.pc) (val s.base) = o := by
  rw [step_eq_decodeBlock]
  simp

/-- R104, R200: a reported record is that of the word of one of the two formats. -/
theorem reports_cases {s : State} {r : Record} (h : Reports s r) :
    (∃ w, classify s.hex = .f3 w ∧
      decodeFields s.params .f3 (w.setWidth 32) (extract w) (val s.pc) (val s.base) = .ok r) ∨
    ∃ w, classify s.hex = .f4 w ∧ decodeFields s.params .f4 w (extract w) (val s.pc) (val s.base) = .ok r := by
  have hblock := step_eq_next_iff.mp h
  unfold decodeBlock at hblock
  split at hblock
  next => cases hblock
  next w hw => exact .inl ⟨w, hw, hblock⟩
  next w hw => exact .inr ⟨w, hw, hblock⟩

/-- The format and the word of a record are those the fields came with. -/
theorem fmt_word_of_decodeFields {P : Params} {fmt : Format} {word : Word32} {f : Fields} {pc base : Int} {r : Record}
    (h : decodeFields P fmt word f pc base = .ok r) : r.fmt = fmt ∧ r.word = word := by
  obtain ⟨q, -, rfl⟩ := decodeFields_ok h
  exact ⟨rfl, rfl⟩

/-- The steps after the classifier raise INVALID_FLAG_COMBINATION or nothing (R143). -/
theorem decodeFields_error {P : Params} {fmt : Format} {word : Word32} {f : Fields} {pc base : Int} {err : DecodeError}
    (h : decodeFields P fmt word f pc base = .error err) : err = .invalidFlagCombination := by
  unfold decodeFields at h
  split at h <;> cases h
  rfl

/-- R105: the whole decode raises UNSUPPORTED_FORMAT exactly where its classifier does. -/
theorem decodeBlock_eq_unsupportedFormat_iff {P : Params} {hex : List Char} {pc base : Int} :
    decodeBlock P hex pc base = .error .unsupportedFormat ↔ classify hex = .rejected .unsupportedFormat := by
  unfold decodeBlock
  cases classify hex with
  | rejected err => simp
  | f3 w => exact iff_of_false (fun h => nomatch decodeFields_error h) nofun
  | f4 w => exact iff_of_false (fun h => nomatch decodeFields_error h) nofun

end Sys2Proof.Machine

/-! # The obligations of 40_format_classifier.md -/

namespace Sys2Proof.Proofs

open Sys2Proof Sys2Proof.Machine Sys2Proof.Claims

/-- Settles O3: the word decoded is the value of the digits, which is written back as them. -/
theorem encodeDecodeNormalises : Obligations.EncodeDecodeNormalises := by
  intro cs i h
  unfold decodeHex at h
  split at h <;> cases h
  next w hw =>
    obtain ⟨hok, hlen, hval⟩ := of_classify_f3 hw
    rw [encode_decodeF3, hval, hexString_of_hexOk hok hlen]
  next w hw =>
    obtain ⟨hok, hlen, hval⟩ := of_classify_f4 hw
    rw [encode_decodeF4, hval, hexString_of_hexOk hok hlen]

/-- Settles O20: the ranges of R100 and its list give the same digits. -/
theorem hexDigitSet : Obligations.HexDigitSet := fun _ _ => hexDigit?_eq_some_iff

/-- Settles O22: the record's word and format are those of the classifier's answer. -/
theorem wordPortAndFormat : Obligations.WordPortAndFormat := by
  intro s r h
  obtain ⟨w, hw, hr⟩ | ⟨w, hw, hr⟩ := reports_cases h
  · obtain ⟨-, hlen, hval⟩ := of_classify_f3 hw
    obtain ⟨hfmt, hword⟩ := fmt_word_of_decodeFields hr
    have hnat : r.word.toNat = w.toNat := by rw [hword, BitVec.toNat_setWidth_of_le (by decide)]
    have htop : r.word.extractLsb' 24 8 = 0 := by
      rw [← BitVec.toNat_inj, BitVec.extractLsb'_toNat, hnat, Nat.shiftRight_eq_div_pow, Nat.div_eq_of_lt w.isLt]
      rfl
    simp [hnat, hval, hfmt, hlen, htop]
  · obtain ⟨-, hlen, hval⟩ := of_classify_f4 hw
    obtain ⟨hfmt, hword⟩ := fmt_word_of_decodeFields hr
    simp [hword, hval, hfmt, hlen]

/-- Settles O23: no step after the classifier raises UNSUPPORTED_FORMAT. -/
theorem unsupportedFormatExactly : Obligations.UnsupportedFormatExactly := fun _ =>
  step_eq_next_iff.trans (decodeBlock_eq_unsupportedFormat_iff.trans classify_eq_unsupportedFormat_iff)

/-- Settles O25: in each case of the classifier the three signals name the case, and `value` holds its word. -/
theorem boundedFrontEndIsExact : Obligations.BoundedFrontEndIsExact := by
  intro cs
  rcases classify_cases cs with ⟨hok, h⟩ | ⟨hok, hlen, h⟩ | ⟨hok, hlen, h⟩ | ⟨hok, h6, h8, h⟩
  · simp [h, frontEnd, hok, classifyFrontEnd]
  · simp [h, frontEnd, lenClass, hok, hlen, classifyFrontEnd]
  · simp [h, frontEnd, lenClass, hok, hlen, classifyFrontEnd]
  · simp [h, frontEnd, lenClass, hok, h6, h8, classifyFrontEnd]

/-- Settles O10: the decoder runs on each of the nine words. -/
theorem specWordsDecode : Obligations.SpecWordsDecode := by
  unfold Obligations.SpecWordsDecode
  decide

end Sys2Proof.Proofs

/-! # The effective opcode (R121)

The `eff_opcode` port is the mask formula on the record's own opcode (`effOpcode_of_reports`). Its multiple of 4, its bound and
its top bits follow from the arithmetic value of the formula (`effOpcode_toNat`). -/

namespace Sys2Proof.Machine

open Sys2Proof Sys2Proof.Claims

theorem effOpcode_of_decodeFields {P : Params} {fmt : Format} {word : Word32} {f : Fields} {pc base : Int} {r : Record}
    (h : decodeFields P fmt word f pc base = .ok r) : r.effOpcode = effOpcode r.opcode6 := by
  obtain ⟨q, -, rfl⟩ := decodeFields_ok h
  rfl

theorem effOpcode_of_reports {s : State} {r : Record} (h : Reports s r) : r.effOpcode = effOpcode r.opcode6 := by
  obtain ⟨w, -, hr⟩ | ⟨w, -, hr⟩ := reports_cases h
  · exact effOpcode_of_decodeFields hr
  · exact effOpcode_of_decodeFields hr

theorem effOpcode_toNat_mod_four (op : Opcode6) : (effOpcode op).toNat % 4 = 0 := by
  rw [effOpcode_toNat]
  omega

/-- The largest multiple of 4 that 6 bits hold. -/
theorem effOpcode_toNat_le (op : Opcode6) : (effOpcode op).toNat ≤ 0x3C := by
  have hop := op.isLt
  rw [effOpcode_toNat]
  omega

/-- Bits 7 and 6 are the value's quotient by 64, which its bound makes 0. -/
theorem effOpcode_extractLsb'_top (op : Opcode6) : (effOpcode op).extractLsb' 6 2 = 0 := by
  have hlt : (effOpcode op).toNat < 2 ^ 6 := Nat.lt_of_le_of_lt (effOpcode_toNat_le op) (by decide)
  rw [← BitVec.toNat_inj, BitVec.extractLsb'_toNat, Nat.shiftRight_eq_div_pow, Nat.div_eq_of_lt hlt]
  rfl

end Sys2Proof.Machine

/-! # The obligations of 41_field_extractor.md -/

namespace Sys2Proof.Proofs

open Sys2Proof Sys2Proof.Machine Sys2Proof.Claims

/-- Settles O27: the port is the mask formula on the record's opcode, whose value is the opcode less its rest modulo 4. -/
theorem effectiveOpcodeLaw : Obligations.EffectiveOpcodeLaw := by
  intro s r h
  rw [effOpcode_of_reports h]
  exact ⟨rfl, effOpcode_toNat _, effOpcode_toNat_mod_four _, effOpcode_toNat_le _, effOpcode_extractLsb'_top _⟩

end Sys2Proof.Proofs

/-! # The two multiplexers (R140 to R147)

A reported record's mode and qualifier are the multiplexers' answers to its own flags and format (`muxes_of_reports`), so the two
tables are those of `modeMux` and `qualMux`. Every pair of R146 is one the multiplexers answer to the flags `modeFlags` and
`qualFlags`, and a word of each format carries any flags (`exists_step_eq_decodeFields`). -/

namespace Sys2Proof.Machine

open Sys2Proof Sys2Proof.Claims

/-! ## The tables of R140 and R142 -/

@[simp] theorem modeMux_f3_sic : modeMux .f3 false false = .simpleSic := rfl
@[simp] theorem modeMux_f4_direct : modeMux .f4 false false = .simpleDirect4 := rfl
@[simp] theorem modeMux_simple (fmt : Format) : modeMux fmt true true = .simple := rfl
@[simp] theorem modeMux_immediate (fmt : Format) : modeMux fmt false true = .immediate := rfl
@[simp] theorem modeMux_indirect (fmt : Format) : modeMux fmt true false = .indirect := rfl

/-- R141: the modes that take the (b, p) qualifier. -/
theorem Mode.qualified_iff {m : Mode} : Mode.qualified m = true ↔ m = .simple ∨ m = .simpleDirect4 ∨ m = .indirect := by
  cases m <;> simp [Mode.qualified]

/-- R141: the modes that do not. -/
theorem Mode.not_qualified_iff {m : Mode} : Mode.qualified m = false ↔ m = .simpleSic ∨ m = .immediate := by
  cases m <;> simp [Mode.qualified]

theorem qualMux_of_not_qualified {m : Mode} (hm : Mode.qualified m = false) (fmt : Format) (b p : Bool) :
    qualMux fmt m b p = some .none := by simp [qualMux, hm]

section

variable {m : Mode} (hm : Mode.qualified m = true)
include hm

theorem qualMux_pcRel (fmt : Format) : qualMux fmt m false true = some .pcRel := by simp [qualMux, hm]
theorem qualMux_baseRel (fmt : Format) : qualMux fmt m true false = some .baseRel := by simp [qualMux, hm]
theorem qualMux_direct : qualMux .f3 m false false = some .direct := by simp [qualMux, hm]
theorem qualMux_absolute : qualMux .f4 m false false = some .absolute := by simp [qualMux, hm]
theorem qualMux_invalid (fmt : Format) : qualMux fmt m true true = none := by simp [qualMux, hm]

end

/-! ## The multiplexers' answers in a record -/

theorem muxes_of_decodeFields {P : Params} {fmt : Format} {word : Word32} {f : Fields} {pc base : Int} {r : Record}
    (h : decodeFields P fmt word f pc base = .ok r) :
    r.mode = modeMux r.fmt r.n r.i ∧ qualMux r.fmt r.mode r.b r.p = some r.qual := by
  obtain ⟨q, hq, rfl⟩ := decodeFields_ok h
  exact ⟨rfl, hq⟩

/-- R147: the multiplexers' operands are the record's own flags and format. -/
theorem muxes_of_reports {s : State} {r : Record} (h : Reports s r) :
    r.mode = modeMux r.fmt r.n r.i ∧ qualMux r.fmt r.mode r.b r.p = some r.qual := by
  obtain ⟨w, -, hr⟩ | ⟨w, -, hr⟩ := reports_cases h
  · exact muxes_of_decodeFields hr
  · exact muxes_of_decodeFields hr

/-- Where the multiplexers answer a qualifier, there is a record with it. -/
theorem decodeFields_eq_ok {fmt : Format} {f : Fields} {q : Qual} (hq : qualMux fmt (modeMux fmt f.n f.i) f.b f.p = some q)
    (P : Params) (word : Word32) (pc base : Int) :
    ∃ r, decodeFields P fmt word f pc base = .ok r ∧ r.fmt = fmt ∧ r.mode = modeMux fmt f.n f.i ∧ r.qual = q := by
  unfold decodeFields
  rw [hq]
  exact ⟨_, rfl, rfl, rfl, rfl⟩

/-! ## A step for each pair of R146 -/

/-- The (n, i) of a mode (R140). -/
def modeFlags : Mode → Bool × Bool
  | .simpleSic | .simpleDirect4 => (false, false)
  | .simple => (true, true)
  | .immediate => (false, true)
  | .indirect => (true, false)

/-- A (b, p) of a qualifier (R142); an unqualified mode has it with any. -/
def qualFlags : Qual → Bool × Bool
  | .pcRel => (false, true)
  | .baseRel => (true, false)
  | .direct | .absolute | .none => (false, false)

theorem modeMux_modeFlags {fmt : Format} {m : Mode} {q : Qual} (h : pairOccurs fmt m q = true) :
    modeMux fmt (modeFlags m).1 (modeFlags m).2 = m := by
  cases m with
  | simple | immediate | indirect => rfl
  | simpleSic =>
    cases fmt with
    | f3 => rfl
    | f4 => cases h
  | simpleDirect4 =>
    cases fmt with
    | f3 => cases h
    | f4 => rfl

/-- R141: NONE is the qualifier of the unqualified modes alone. -/
theorem qualified_iff_of_pairOccurs {fmt : Format} {m : Mode} {q : Qual} (h : pairOccurs fmt m q = true) :
    Mode.qualified m = true ↔ q ≠ .none := by
  cases m with
  | simpleSic | immediate =>
    have hq : q = .none := by cases fmt <;> simp_all [pairOccurs]
    exact iff_of_false nofun (not_not_intro hq)
  | simple | simpleDirect4 | indirect =>
    refine iff_of_true rfl ?_
    rintro rfl
    cases fmt <;> cases h

theorem fmt_of_pairOccurs_direct {fmt : Format} {m : Mode} (h : pairOccurs fmt m .direct = true) : fmt = .f3 := by
  cases fmt with
  | f3 => rfl
  | f4 => cases m <;> cases h

theorem fmt_of_pairOccurs_absolute {fmt : Format} {m : Mode} (h : pairOccurs fmt m .absolute = true) : fmt = .f4 := by
  cases fmt with
  | f3 => cases m <;> cases h
  | f4 => rfl

theorem qualMux_qualFlags {fmt : Format} {m : Mode} {q : Qual} (h : pairOccurs fmt m q = true) :
    qualMux fmt m (qualFlags q).1 (qualFlags q).2 = some q := by
  have hm := qualified_iff_of_pairOccurs h
  cases q with
  | none => exact qualMux_of_not_qualified (by simpa using hm) ..
  | pcRel => exact qualMux_pcRel (hm.mpr nofun) fmt
  | baseRel => exact qualMux_baseRel (hm.mpr nofun) fmt
  | direct =>
    obtain rfl := fmt_of_pairOccurs_direct h
    exact qualMux_direct (hm.mpr nofun)
  | absolute =>
    obtain rfl := fmt_of_pairOccurs_absolute h
    exact qualMux_absolute (hm.mpr nofun)

/-- In each format there is an input whose step decodes fields with any given (n, i) and (b, p): the word packed from them. -/
theorem exists_step_eq_decodeFields (fmt : Format) (ni bp : Bool × Bool) :
    ∃ (s : State) (word : Word32) (f : Fields), (f.n, f.i) = ni ∧ (f.b, f.p) = bp ∧
      step s = .next { s with out := decodeFields s.params fmt word f (val s.pc) (val s.base) } := by
  cases fmt with
  | f3 =>
    have hw := classify_tableHex_f3 (packF3 (f3Fields 0 ni.1 ni.2 false bp.1 bp.2 false 0)).toNat
    rw [BitVec.ofNat_toNat, BitVec.setWidth_eq] at hw
    have hstep := step_eq_decodeFields_of_f3 (s := State.reset.withFetchWord 24 _) hw
    rw [extract_packF3] at hstep
    exact ⟨_, _, _, rfl, rfl, hstep⟩
  | f4 =>
    have hw := classify_tableHex_f4 (packF4 (f4Fields 0 ni.1 ni.2 false bp.1 bp.2 false 0)).toNat
    rw [BitVec.ofNat_toNat, BitVec.setWidth_eq] at hw
    have hstep := step_eq_decodeFields_of_f4 (s := State.reset.withFetchWord 32 _) hw
    rw [extract_packF4] at hstep
    exact ⟨_, _, _, rfl, rfl, hstep⟩

/-- R146: each of the pairs is that of a reported record. -/
theorem exists_reports_of_pairOccurs {fmt : Format} {m : Mode} {q : Qual} (h : pairOccurs fmt m q = true) :
    ∃ (s : State) (r : Record), Reports s r ∧ r.fmt = fmt ∧ r.mode = m ∧ r.qual = q := by
  obtain ⟨s, word, f, hni, hbp, hstep⟩ := exists_step_eq_decodeFields fmt (modeFlags m) (qualFlags q)
  have hmode : modeMux fmt f.n f.i = m := by
    have := modeMux_modeFlags h
    rwa [← hni] at this
  have hqual : qualMux fmt (modeMux fmt f.n f.i) f.b f.p = some q := by
    have := qualMux_qualFlags h
    rwa [← hbp, ← hmode] at this
  obtain ⟨r, hr, hfmt, hm, hq⟩ := decodeFields_eq_ok hqual s.params word (val s.pc) (val s.base)
  exact ⟨s, r, by rw [Reports, hstep, hr], hfmt, hm.trans hmode, hq⟩

end Sys2Proof.Machine

/-! # The obligations of 42_addressing_mode.md -/

namespace Sys2Proof.Proofs

open Sys2Proof Sys2Proof.Machine Sys2Proof.Claims

/-- Settles O29: the record's mode is the mode multiplexer's answer, row by row of R140. -/
theorem modeTable : Obligations.ModeTable := by
  intro s r h
  obtain ⟨hmode, -⟩ := muxes_of_reports h
  rw [hmode]
  exact ⟨fun hn hi hfmt => by rw [hn, hi, hfmt, modeMux_f3_sic], fun hn hi hfmt => by rw [hn, hi, hfmt, modeMux_f4_direct],
    fun hn hi => by rw [hn, hi, modeMux_simple], fun hn hi => by rw [hn, hi, modeMux_immediate],
    fun hn hi => by rw [hn, hi, modeMux_indirect]⟩

/-- Settles O30: the record's qualifier is the qualifier multiplexer's answer, row by row of R142 in a qualified mode; to
(1, 1) it answers none. -/
theorem qualifierTable : Obligations.QualifierTable := by
  intro s r h
  obtain ⟨-, hqual⟩ := muxes_of_reports h
  refine ⟨fun hm => ?_, fun hm => ?_⟩
  · rw [qualMux_of_not_qualified (Mode.not_qualified_iff.mpr hm)] at hqual
    exact (Option.some.inj hqual).symm
  · have hm := Mode.qualified_iff.mpr hm
    refine ⟨?_, ?_, ?_, ?_, ?_⟩
    · intro hb hp
      simpa [hb, hp, qualMux_pcRel hm] using hqual.symm
    · intro hb hp
      simpa [hb, hp, qualMux_baseRel hm] using hqual.symm
    · intro hb hp hfmt
      simpa [hb, hp, hfmt, qualMux_direct hm] using hqual.symm
    · intro hb hp hfmt
      simpa [hb, hp, hfmt, qualMux_absolute hm] using hqual.symm
    · rintro ⟨hb, hp⟩
      simp [hb, hp, qualMux_invalid hm] at hqual

/-- Settles O31: a record's pair is one of the multiplexers' answers, and each pair of R146 is their answer to some word. -/
theorem modeQualifierPairs : Obligations.ModeQualifierPairs := by
  refine ⟨fun s r h => ?_, fun fmt m q => exists_reports_of_pairOccurs⟩
  obtain ⟨hmode, hqual⟩ := muxes_of_reports h
  rw [hmode] at hqual ⊢
  exact pairOccurs_of_qualMux hqual

end Sys2Proof.Proofs

/-! # The displacement sign-extender (R160 to R165)

A reported record's displacement is the sign-extender's answer to its own enable and raw port (`signExtension_of_reports`). The
enable is on for Format 3 words alone, so the raw port then holds a 12-bit field, and its extension is `sint12` of that field
(`disp_of_signed`). -/

namespace Sys2Proof.Machine

open Sys2Proof Sys2Proof.Claims

/-! ## The enable in terms of the flags (R160) -/

/-- R140, R141: a Format 3 mode takes the (b, p) qualifier exactly when n is set. -/
theorem qualified_modeMux_f3 (n i : Bool) : Mode.qualified (modeMux .f3 n i) = n := by
  cases n <;> cases i <;> rfl

/-- R142: PC_REL is the qualifier of (b, p) = (0, 1) in a qualified mode alone. -/
theorem qualMux_eq_pcRel_iff {fmt : Format} {m : Mode} {b p : Bool} :
    qualMux fmt m b p = some .pcRel ↔ Mode.qualified m = true ∧ b = false ∧ p = true := by
  cases hm : Mode.qualified m with
  | false => simp [qualMux_of_not_qualified hm]
  | true =>
    cases b <;> cases p
    case false.false => cases fmt <;> simp [qualMux_direct hm, qualMux_absolute hm]
    case false.true => simp [qualMux_pcRel hm]
    case true.false => simp [qualMux_baseRel hm]
    case true.true => simp [qualMux_invalid hm]

/-- A Format 3 record is PC_REL exactly when its flags say so. -/
theorem qual_eq_pcRel_iff {s : State} {r : Record} (h : Reports s r) (hfmt : r.fmt = .f3) :
    r.qual = .pcRel ↔ r.b = false ∧ r.p = true ∧ r.n = true := by
  obtain ⟨hmode, hqual⟩ := muxes_of_reports h
  have hiff := qualMux_eq_pcRel_iff (fmt := r.fmt) (m := r.mode) (b := r.b) (p := r.p)
  rw [hqual, Option.some_inj, hmode, hfmt, qualified_modeMux_f3] at hiff
  rw [hiff, and_comm, and_assoc]

/-! ## The sign extension of a 12-bit field (R161) -/

theorem sint12_of_ge {d : Field12} (h : 0x800 ≤ d.toNat) : sint12 d = d.toNat - 4096 :=
  if_pos ((getLsbD_11_iff d).mpr h)

theorem sint12_of_lt {d : Field12} (h : d.toNat < 0x800) : sint12 d = d.toNat :=
  if_neg fun hbit => Nat.not_le_of_lt h ((getLsbD_11_iff d).mp hbit)

/-! ## The extender's answer in a record -/

theorem signExtension_of_decodeFields {P : Params} {fmt : Format} {word : Word32} {f : Fields} {pc base : Int} {r : Record}
    (h : decodeFields P fmt word f pc base = .ok r) : r.disp = signExtender r.dispSigned r.dispRaw := by
  obtain ⟨q, -, rfl⟩ := decodeFields_ok h
  rfl

/-- R164: the extender's operands are the record's own enable and raw port. -/
theorem signExtension_of_reports {s : State} {r : Record} (h : Reports s r) : r.disp = signExtender r.dispSigned r.dispRaw := by
  obtain ⟨w, -, hr⟩ | ⟨w, -, hr⟩ := reports_cases h
  · exact signExtension_of_decodeFields hr
  · exact signExtension_of_decodeFields hr

/-- Every reported record is legal, since every output of a step is. -/
theorem legalRecord_of_reports {s : State} {r : Record} (h : Reports s r) : LegalRecord s.params r :=
  Proofs.stepEstablishesLegalOutput s _ h r rfl

/-- R123, R160: only a Format 3 field is extended, so 12 bits hold the raw port. -/
theorem dispRaw_toNat_of_signed {s : State} {r : Record} (h : Reports s r) (hs : r.dispSigned = true) :
    (r.dispRaw.setWidth 12).toNat = r.dispRaw.toNat := by
  have hlegal := legalRecord_of_reports h
  obtain ⟨hfmt, -⟩ := hlegal.signedIff.mp hs
  rw [BitVec.toNat_setWidth, Nat.mod_eq_of_lt (hlegal.fieldAligned hfmt)]

theorem disp_of_signed {s : State} {r : Record} (h : Reports s r) (hs : r.dispSigned = true) :
    r.disp = sint12 (r.dispRaw.setWidth 12) := by
  have hraw : r.dispRaw = (r.dispRaw.setWidth 12).setWidth 20 := by
    rw [← BitVec.toNat_inj, BitVec.toNat_setWidth_of_le (by decide), dispRaw_toNat_of_signed h hs]
  rw [← signExtender_f3, ← hraw, ← hs]
  exact signExtension_of_reports h

/-! ## The 21-bit port (R8) -/

theorem dispPort_of_signed {s : State} {r : Record} (h : Reports s r) (hs : r.dispSigned = true) :
    r.dispPort = (r.dispRaw.setWidth 12).signExtend 21 := by
  rw [Record.dispPort, disp_of_signed h hs, sint12_eq_toInt]
  rfl

theorem dispPort_of_disp_eq_dispRaw {r : Record} (h : r.disp = r.dispRaw.toNat) : r.dispPort = r.dispRaw.setWidth 21 := by
  rw [Record.dispPort, h, BitVec.ofInt_natCast, BitVec.ofNat_toNat]

theorem dispPort_toInt {r : Record} (h : -2048 ≤ r.disp ∧ r.disp < 2 ^ 20) : r.dispPort.toInt = r.disp :=
  BitVec.toInt_ofInt_eq_self (by decide) (by omega) (by omega)

end Sys2Proof.Machine

/-! # The obligations of 43_displacement.md -/

namespace Sys2Proof.Proofs

open Sys2Proof Sys2Proof.Machine Sys2Proof.Claims

/-- Settles O33: a legal record's enable is F3 with PC_REL, which the qualifier multiplexer answers to those flags alone. -/
theorem signExtenderEnable : Obligations.SignExtenderEnable := by
  intro s r h
  have henable := (legalRecord_of_reports h).signedIff
  exact ⟨henable, henable.trans (and_congr_right (qual_eq_pcRel_iff h))⟩

/-- Settles O34: enabled, the displacement is `sint12` of the field that the raw port holds; disabled, it is the raw value. -/
theorem signExtensionLaw : Obligations.SignExtensionLaw := by
  intro s r h
  have hlegal := legalRecord_of_reports h
  refine ⟨fun hs hge => ?fromSignBit, fun hs hlt => ?belowSignBit, fun hs => ?signed, fun hs => ?unsigned⟩
  case fromSignBit =>
    rw [← dispRaw_toNat_of_signed h hs] at hge ⊢
    exact (disp_of_signed h hs).trans (sint12_of_ge hge)
  case belowSignBit =>
    rw [← dispRaw_toNat_of_signed h hs] at hlt ⊢
    exact (disp_of_signed h hs).trans (sint12_of_lt hlt)
  case signed =>
    obtain ⟨hmin, hmax⟩ := hlegal.signedRange hs
    exact ⟨hmin, hmax, dispPort_of_signed h hs⟩
  case unsigned =>
    have hdisp := hlegal.unsignedValue hs
    exact ⟨hdisp, dispPort_of_disp_eq_dispRaw hdisp⟩

/-- Settles O35: the enable asks for F3, and a disabled extender gives the value of the 20-bit field. -/
theorem format4NeverSignExtended : Obligations.Format4NeverSignExtended := by
  intro s r h hfmt
  have hlegal := legalRecord_of_reports h
  have hs : r.dispSigned = false := by
    rw [← Bool.not_eq_true, hlegal.signedIff, hfmt]
    exact fun hf3 => nomatch hf3.1
  have hdisp := hlegal.unsignedValue hs
  have hlt := r.dispRaw.isLt
  exact ⟨hs, hdisp, by omega, by omega⟩

/-- Settles O36: every answer of the extender lies in a range that 21 bits hold. -/
theorem displacementRange : Obligations.DisplacementRange := by
  intro s r h
  obtain ⟨hmin, hmax⟩ := signExtender_range r.dispSigned r.dispRaw
  rw [← signExtension_of_reports h] at hmin hmax
  exact ⟨hmin, Int.le_sub_one_of_lt hmax, dispPort_toInt ⟨hmin, hmax⟩⟩

end Sys2Proof.Proofs

/-! # The target-address ALU (R180 to R187)

A reported record's target address is the ALU's answer to the two ports and to the record's own format, mode, qualifier, x and
displacement (`ta_of_reports`), and no other output reads the ports (`step_of_pc`, `step_of_base`). The bounds of R186 are those
of the displacement in each case (`LegalRecord.disp_range_pcRel`, `LegalRecord.disp_range_f3`) and of the two ports. -/

namespace Sys2Proof

/-- Words that agree but for the x bit have the same fields but for x. -/
theorem extract_eq_of_getLsbD_eq {W : Nat} (hW : 12 ≤ W) {w w' : BitVec W}
    (hbit : ∀ k, W - 9 ≠ k → w'.getLsbD k = w.getLsbD k) :
    extract w' = { extract w with x := w'.getLsbD (W - 9) } := by
  have hslice (start len : Nat) (h : W - 9 < start ∨ start + len ≤ W - 9) :
      w'.extractLsb' start len = w.extractLsb' start len := by
    apply BitVec.eq_of_getLsbD_eq
    intro k hk
    rw [BitVec.getLsbD_extractLsb', BitVec.getLsbD_extractLsb', hbit _ (by omega)]
  simp (disch := omega) only [extract, hbit, hslice]

theorem extract_or_xBit {W : Nat} (hW : 12 ≤ W) (w : BitVec W) :
    extract (w ||| BitVec.twoPow W (W - 9)) = { extract w with x := true } := by
  have hx : (w ||| BitVec.twoPow W (W - 9)).getLsbD (W - 9) = true := by
    simp [show W - 9 < W by omega]
  have hbit (k : Nat) (hk : W - 9 ≠ k) : (w ||| BitVec.twoPow W (W - 9)).getLsbD k = w.getLsbD k := by
    simp [BitVec.getLsbD_twoPow, hk]
  rw [extract_eq_of_getLsbD_eq hW hbit, hx]

end Sys2Proof

namespace Sys2Proof.Machine

open Sys2Proof Sys2Proof.Claims

/-! ## The selected sum (R181, R182) -/

@[simp] theorem taBase_f4 (q : Qual) (pc base disp : Int) : taBase .f4 q pc base disp = disp := rfl
@[simp] theorem taBase_pcRel (pc base disp : Int) : taBase .f3 .pcRel pc base disp = pc + disp := rfl
@[simp] theorem taBase_baseRel (pc base disp : Int) : taBase .f3 .baseRel pc base disp = base + disp := rfl
@[simp] theorem taBase_direct (pc base disp : Int) : taBase .f3 .direct pc base disp = disp := rfl
@[simp] theorem taBase_none (pc base disp : Int) : taBase .f3 .none pc base disp = disp := rfl

/-- R181's rows in its order. -/
theorem taBase_eq_ite (fmt : Format) (q : Qual) (pc base disp : Int) :
    taBase fmt q pc base disp =
      if fmt = .f4 then disp else if q = .pcRel then pc + disp else if q = .baseRel then base + disp else disp := by
  cases fmt with
  | f4 => rfl
  | f3 => cases q <;> rfl

theorem taAlu_of_ne_immediate {m : Mode} (hm : m ≠ .immediate) (P : Params) (fmt : Format) (q : Qual) (x : Bool)
    (pc base disp : Int) : taAlu P fmt m q x pc base disp = some (taBase fmt q pc base disp + indexOffset P x) :=
  if_neg hm

theorem taAlu_eq_some_iff {P : Params} {fmt : Format} {m : Mode} {q : Qual} {x : Bool} {pc base disp t : Int} :
    taAlu P fmt m q x pc base disp = some t ↔
      m ≠ .immediate ∧ t - indexOffset P x = taBase fmt q pc base disp := by
  by_cases hm : m = .immediate
  · simp [hm]
  · rw [taAlu_of_ne_immediate hm, Option.some_inj, and_iff_right hm]
    omega

/-- R182: with x set the ALU's answer, where it has one, is `X_OFFSET` more. -/
theorem taAlu_x_true (P : Params) (fmt : Format) (m : Mode) (q : Qual) (pc base disp : Int) :
    taAlu P fmt m q true pc base disp = (taAlu P fmt m q false pc base disp).map (· + (P.xOffset.toNat : Int)) := by
  by_cases hm : m = .immediate
  · simp [hm]
  · simp [taAlu_of_ne_immediate hm, indexOffset, val]

/-- A sum whose first term changes moves by the difference. -/
theorem map_add_sub_some (a a' b c : Int) : (some (a + b + c)).map (· + (a' - a)) = some (a' + b + c) :=
  congrArg some (by dsimp only; omega)

/-- The x bit enters the output at its own ports and the target address alone. -/
theorem decodeFields_setX (P : Params) (fmt : Format) (word mask : Word32) {f : Fields} (hx : f.x = false) (pc base : Int) :
    decodeFields P fmt (word ||| mask) { f with x := true } pc base =
      setX P.xOffset.toNat mask (decodeFields P fmt word f pc base) := by
  unfold decodeFields
  cases qualMux fmt (modeMux fmt f.n f.i) f.b f.p with
  | none => rfl
  | some q => simp [setX, mkRecord, hx, taAlu_x_true]

/-! ## The ALU's answer in a record, and what the ports enter (R187) -/

/-- `pc` and `base` enter a record at its target address alone. -/
theorem decodeFields_of_ports {P : Params} {fmt : Format} {word : Word32} {f : Fields} {pc base : Int} {r : Record}
    (h : decodeFields P fmt word f pc base = .ok r) (pc' base' : Int) :
    decodeFields P fmt word f pc' base' = .ok { r with ta := taAlu P r.fmt r.mode r.qual r.x pc' base' r.disp } := by
  obtain ⟨q, hq, rfl⟩ := decodeFields_ok h
  unfold decodeFields
  rw [hq]
  rfl

theorem decodeBlock_of_ports {P : Params} {hex : List Char} {pc base : Int} {r : Record}
    (h : decodeBlock P hex pc base = .ok r) (pc' base' : Int) :
    decodeBlock P hex pc' base' = .ok { r with ta := taAlu P r.fmt r.mode r.qual r.x pc' base' r.disp } := by
  unfold decodeBlock at h ⊢
  cases hc : classify hex with
  | rejected err => simp [hc] at h
  | f3 w =>
    rw [hc] at h
    exact decodeFields_of_ports h pc' base'
  | f4 w =>
    rw [hc] at h
    exact decodeFields_of_ports h pc' base'

/-- R183: the ALU's operands are the two ports and the record's own outputs. -/
theorem ta_of_reports {s : State} {r : Record} (h : Reports s r) :
    r.ta = taAlu s.params r.fmt r.mode r.qual r.x (val s.pc) (val s.base) r.disp := by
  have hblock := step_eq_next_iff.mp h
  have hsame := hblock.symm.trans (decodeBlock_of_ports hblock (val s.pc) (val s.base))
  exact congrArg Record.ta (DecodeResult.ok.inj hsame)

theorem step_of_pc {s : State} {r : Record} (h : Reports s r) (pc' : BitVec s.params.addrW) :
    step { s with pc := pc' } = .next { s with
      pc := pc', out := .ok { r with ta := taAlu s.params r.fmt r.mode r.qual r.x (val pc') (val s.base) r.disp } } :=
  step_eq_next_iff.mpr (decodeBlock_of_ports (step_eq_next_iff.mp h) _ _)

theorem step_of_base {s : State} {r : Record} (h : Reports s r) (base' : BitVec s.params.addrW) :
    step { s with base := base' } = .next { s with
      base := base', out := .ok { r with ta := taAlu s.params r.fmt r.mode r.qual r.x (val s.pc) (val base') r.disp } } :=
  step_eq_next_iff.mpr (decodeBlock_of_ports (step_eq_next_iff.mp h) _ _)

/-! ## The cases of a legal record (R146, R180, R186) -/

section

variable {P : Params} {r : Record} (h : LegalRecord P r)
include h

/-- R141: IMMEDIATE has no qualifier. -/
theorem LegalRecord.mode_ne_immediate (hq : r.qual ≠ .none) : r.mode ≠ .immediate := by
  intro hm
  have hqualified := (qualified_iff_of_pairOccurs h.pair).mpr hq
  rw [hm] at hqualified
  cases hqualified

theorem LegalRecord.taAlu_pcRel (hfmt : r.fmt = .f3) (hq : r.qual = .pcRel) (x : Bool) (pc base disp : Int) :
    taAlu P r.fmt r.mode r.qual x pc base disp = some (pc + disp + indexOffset P x) := by
  rw [taAlu_of_ne_immediate (h.mode_ne_immediate (by simp [hq])), hfmt, hq, taBase_pcRel]

theorem LegalRecord.taAlu_baseRel (hfmt : r.fmt = .f3) (hq : r.qual = .baseRel) (x : Bool) (pc base disp : Int) :
    taAlu P r.fmt r.mode r.qual x pc base disp = some (base + disp + indexOffset P x) := by
  rw [taAlu_of_ne_immediate (h.mode_ne_immediate (by simp [hq])), hfmt, hq, taBase_baseRel]

/-- R146: SIMPLE_SIC is a mode of Format 3, without a qualifier. -/
theorem LegalRecord.fmt_qual_of_simpleSic (hm : r.mode = .simpleSic) : r.fmt = .f3 ∧ r.qual = .none := by
  have hpair := h.pair
  rw [hm] at hpair
  cases hfmt : r.fmt <;> simp_all [pairOccurs]

theorem LegalRecord.disp_range_pcRel (hfmt : r.fmt = .f3) (hq : r.qual = .pcRel) : -2048 ≤ r.disp ∧ r.disp ≤ 2047 :=
  h.signedRange (h.signedIff.mpr ⟨hfmt, hq⟩)

/-- R161, R163: any other displacement is the value of the raw port. -/
theorem LegalRecord.disp_eq_dispRaw (hpc : ¬ (r.fmt = .f3 ∧ r.qual = .pcRel)) : r.disp = r.dispRaw.toNat :=
  h.unsignedValue (by rwa [← Bool.not_eq_true, h.signedIff])

/-- R123: a field that is not extended is an unsigned 12-bit value. -/
theorem LegalRecord.disp_range_f3 (hfmt : r.fmt = .f3) (hq : r.qual ≠ .pcRel) : 0 ≤ r.disp ∧ r.disp ≤ 4095 := by
  have hdisp := h.disp_eq_dispRaw fun hpc => hq hpc.2
  have hlt := h.fieldAligned hfmt
  omega

theorem LegalRecord.disp_range_f4 (hfmt : r.fmt = .f4) : 0 ≤ r.disp ∧ r.disp ≤ 2 ^ 20 - 1 := by
  have hdisp := h.disp_eq_dispRaw fun hpc => nomatch hfmt.symm.trans hpc.1
  have hlt := r.dispRaw.isLt
  omega

/-- R186: without the offset, the largest sum is that of the largest base and the largest 12-bit field. -/
theorem LegalRecord.taBase_le {pc base : Int} (hpc : pc < 2 ^ P.addrW) (hbase : base < 2 ^ P.addrW) :
    taBase r.fmt r.qual pc base r.disp ≤ (2 ^ P.boundW - 1) + 4095 := by
  have haddr : (2 : Int) ^ P.addrW ≤ 2 ^ P.boundW := two_pow_le_two_pow (Nat.le_max_left _ _)
  have hfield : (2 : Int) ^ 20 ≤ 2 ^ P.boundW := two_pow_le_two_pow (Nat.le_max_right _ _)
  cases hfmt : r.fmt with
  | f4 =>
    have hdisp := h.disp_range_f4 hfmt
    rw [taBase_f4]
    omega
  | f3 =>
    by_cases hq : r.qual = .pcRel
    · have hdisp := h.disp_range_pcRel hfmt hq
      rw [hq, taBase_pcRel]
      omega
    · have hdisp := h.disp_range_f3 hfmt hq
      rw [taBase_eq_ite, if_neg nofun, if_neg hq]
      split <;> omega

end

/-- R184, R185: `TA_W` bits hold every target address in the bounds of R186. -/
theorem taPort_toInt {P : Params} {r : Record} {t : Int} (ht : r.ta = some t) (hmin : -2048 ≤ t)
    (hmax : t < 2 ^ (P.boundW + 2)) : ∃ v, r.taPort P = some v ∧ v.toInt = t := by
  have hfield : (2 : Int) ^ 20 ≤ 2 ^ (P.boundW + 2) :=
    two_pow_le_two_pow (Nat.le_add_right_of_le (Nat.le_max_right _ _))
  refine ⟨BitVec.ofInt P.taW t, by rw [Record.taPort, ht]; rfl, BitVec.toInt_ofInt_eq_self (Nat.succ_pos _) ?_ hmax⟩
  change -(2 : Int) ^ (P.boundW + 2) ≤ t
  omega

end Sys2Proof.Machine

/-! # The obligations of 44_target_address.md -/

namespace Sys2Proof.Proofs

open Sys2Proof Sys2Proof.Machine Sys2Proof.Claims

/-- Settles O37: the target address is the ALU's answer, which is no address for IMMEDIATE and the sum of R181's row else. -/
theorem targetAddress : Obligations.TargetAddress := by
  intro s r h
  have hta := ta_of_reports h
  refine ⟨(legalRecord_of_reports h).taValidIff, fun hm => ?immediate, fun hm => ?sum⟩
  case immediate => rw [hta, hm, taAlu_immediate]
  case sum =>
    rw [hta, taAlu_of_ne_immediate hm, taBase_eq_ite]
    rfl

/-- Settles O38: less the offset, the target address is the sum of R181's row, whose bounds are those of its displacement and
port; the overall bounds add the offset's. -/
theorem targetAddressRange : Obligations.TargetAddressRange := by
  intro s r t h ht
  have hlegal := legalRecord_of_reports h
  have hpc := val_range s.pc
  have hbase := val_range s.base
  obtain ⟨-, hsum⟩ : r.mode ≠ .immediate ∧ t - indexed s r.x = taBase r.fmt r.qual (val s.pc) (val s.base) r.disp :=
    taAlu_eq_some_iff.mp ((ta_of_reports h).symm.trans ht)
  obtain ⟨hmin, hmax⟩ := hlegal.taRange t ht
  rw [hsum]
  refine ⟨hmin, ?upper, hmax, fun hfmt hq => ?pcRel, fun hfmt hq => ?baseRel, fun hdirect => ?direct, fun hfmt => ?f4,
    taPort_toInt ht hmin hmax⟩
  case upper =>
    have hle := hlegal.taBase_le hpc.2 hbase.2
    have hoff : indexed s r.x < 2 ^ s.params.boundW := (indexOffset_range s.params r.x).2
    omega
  case pcRel =>
    have hdisp := hlegal.disp_range_pcRel hfmt hq
    rw [hfmt, hq, taBase_pcRel]
    omega
  case baseRel =>
    have hdisp := hlegal.disp_range_f3 hfmt (by simp [hq])
    rw [hfmt, hq, taBase_baseRel]
    omega
  case direct =>
    obtain hq | hm := hdirect
    · have hfmt := fmt_of_pairOccurs_direct (hq ▸ hlegal.pair)
      have hdisp := hlegal.disp_range_f3 hfmt (by simp [hq])
      rwa [hfmt, hq, taBase_direct]
    · obtain ⟨hfmt, hq⟩ := hlegal.fmt_qual_of_simpleSic hm
      have hdisp := hlegal.disp_range_f3 hfmt (by simp [hq])
      rwa [hfmt, hq, taBase_none]
  case f4 =>
    rw [hfmt, taBase_f4]
    exact hlegal.disp_range_f4 hfmt

/-- Settles O39: the two words have the same fields but for x, which enters the offset alone. -/
theorem indexBitAddsOffset : Obligations.IndexBitAddsOffset := by
  refine ⟨fun s hex' w h hx h' => ⟨_, step_eq_decodeFields_of_f3 h, ?f3⟩,
    fun s hex' w h hx h' => ⟨_, step_eq_decodeFields_of_f4 h, ?f4⟩⟩
  case f3 =>
    have hfields : extract (w ||| 0x8000) = { extract w with x := true } := extract_or_xBit (by decide) w
    rw [step_eq_decodeFields_of_f3 (s := { s with hex := hex' }) h', hfields, BitVec.setWidth_or, decodeFields_setX _ _ _ _ hx]
    rfl
  case f4 =>
    have hfields : extract (w ||| 0x800000) = { extract w with x := true } := extract_or_xBit (by decide) w
    rw [step_eq_decodeFields_of_f4 (s := { s with hex := hex' }) h', hfields, decodeFields_setX _ _ _ _ hx]

/-- Settles O40: the ports enter the target address alone, and there as a term of the sum. -/
theorem pcAndBaseUsedAsGiven : Obligations.PcAndBaseUsedAsGiven := by
  intro s r h
  have hlegal := legalRecord_of_reports h
  refine ⟨fun hfmt hq => ?pc, fun hfmt hq => ?base⟩
  case pc =>
    have hta : r.ta = some (s.pc.toNat + r.disp + indexed s r.x) :=
      (ta_of_reports h).trans (hlegal.taAlu_pcRel hfmt hq ..)
    refine ⟨hta, fun pc' => ?_⟩
    rw [step_of_pc h, hlegal.taAlu_pcRel hfmt hq, hta, map_add_sub_some]
    rfl
  case base =>
    have hta : r.ta = some (s.base.toNat + r.disp + indexed s r.x) :=
      (ta_of_reports h).trans (hlegal.taAlu_baseRel hfmt hq ..)
    refine ⟨hta, fun base' => ?_⟩
    rw [step_of_base h, hlegal.taAlu_baseRel hfmt hq, hta, map_add_sub_some]
    rfl

end Sys2Proof.Proofs

/-! # What a decode does not depend on (R102, R203, R205)

A letter and its upper case are the same digit (`hexDigit?_upcase`), so the classifier cannot tell them apart. `pc` and `base`
enter a result at the base part of its target address alone (`decodeBlock_eq_of_taBase`), and each is read by one row of it. -/

namespace Sys2Proof

/-! ## The case of the digits (R102) -/

/-- Upper case changes the letters `a` to `z` alone, and none of them in its digit's value. -/
@[simp] theorem hexDigit?_upcase (c : Char) : hexDigit? (upcase c) = hexDigit? c := by
  by_cases hc : 0x61 ≤ c.toNat ∧ c.toNat ≤ 0x7A
  · have hall : ∀ n : Fin 0x7B, hexDigit? (upcase (Char.ofNat n)) = hexDigit? (Char.ofNat n) := by decide
    simpa using hall ⟨c.toNat, by omega⟩
  · rw [upcase, if_neg hc]

@[simp] theorem isHexDigit_upcase (c : Char) : isHexDigit (upcase c) = isHexDigit c :=
  congrArg Option.isSome (hexDigit?_upcase c)

@[simp] theorem digitValue_upcase (c : Char) : digitValue (upcase c) = digitValue c :=
  congrArg (Option.getD · 0) (hexDigit?_upcase c)

@[simp] theorem hexOk_normalise (cs : List Char) : hexOk (normalise cs) = hexOk cs := by
  simp [hexOk, normalise, Function.comp_def]

@[simp] theorem hexValue_normalise (cs : List Char) : hexValue (normalise cs) = hexValue cs := by
  simp [hexValue, normalise, List.foldl_map]

@[simp] theorem classify_normalise (cs : List Char) : classify (normalise cs) = classify cs := by
  unfold classify
  rw [hexOk_normalise, hexValue_normalise, normalise, List.length_map]

end Sys2Proof

namespace Sys2Proof.Machine

open Sys2Proof Sys2Proof.Claims

theorem decodeBlock_normalise (P : Params) (hex : List Char) (pc base : Int) :
    decodeBlock P (normalise hex) pc base = decodeBlock P hex pc base := by
  simp [decodeBlock]

/-! ## Where `pc` and `base` are read (R181, R205) -/

theorem taBase_pc_congr {fmt : Format} {q : Qual} (h : ¬ (fmt = .f3 ∧ q = .pcRel)) (pc pc' base disp : Int) :
    taBase fmt q pc' base disp = taBase fmt q pc base disp := by
  cases fmt with
  | f4 => rfl
  | f3 =>
    cases q with
    | pcRel => exact absurd ⟨rfl, rfl⟩ h
    | none | baseRel | direct | absolute => rfl

theorem taBase_base_congr {fmt : Format} {q : Qual} (h : ¬ (fmt = .f3 ∧ q = .baseRel)) (pc base base' disp : Int) :
    taBase fmt q pc base' disp = taBase fmt q pc base disp := by
  cases fmt with
  | f4 => rfl
  | f3 =>
    cases q with
    | baseRel => exact absurd ⟨rfl, rfl⟩ h
    | none | pcRel | direct | absolute => rfl

/-- No error comes from the two ports. -/
theorem decodeFields_error_of_ports {P : Params} {fmt : Format} {word : Word32} {f : Fields} {pc base : Int} {err : DecodeError}
    (h : decodeFields P fmt word f pc base = .error err) (pc' base' : Int) :
    decodeFields P fmt word f pc' base' = .error err := by
  unfold decodeFields at h ⊢
  cases hq : qualMux fmt (modeMux fmt f.n f.i) f.b f.p with
  | none => simpa [hq] using h
  | some q => simp [hq] at h

theorem decodeBlock_error_of_ports {P : Params} {hex : List Char} {pc base : Int} {err : DecodeError}
    (h : decodeBlock P hex pc base = .error err) (pc' base' : Int) : decodeBlock P hex pc' base' = .error err := by
  unfold decodeBlock at h ⊢
  cases hc : classify hex with
  | rejected err' => simpa [hc] using h
  | f3 w =>
    rw [hc] at h
    exact decodeFields_error_of_ports h pc' base'
  | f4 w =>
    rw [hc] at h
    exact decodeFields_error_of_ports h pc' base'

/-- Other values on the two ports give the same result, if a record's base part is the same with them. -/
theorem decodeBlock_eq_of_taBase {P : Params} {hex : List Char} {pc base pc' base' : Int}
    (h : ∀ r, decodeBlock P hex pc base = .ok r → taBase r.fmt r.qual pc' base' r.disp = taBase r.fmt r.qual pc base r.disp) :
    decodeBlock P hex pc' base' = decodeBlock P hex pc base := by
  cases hd : decodeBlock P hex pc base with
  | error err => exact decodeBlock_error_of_ports hd pc' base'
  | ok r => rw [decodeBlock_of_ports hd pc' base', taAlu, h r hd, ← taAlu, ← decodeBlock_of_ports hd pc base, hd]

theorem decodeBlock_pc_congr {P : Params} {hex : List Char} {pc base : Int} (h : ¬ ReadsPc (decodeBlock P hex pc base))
    (pc' : Int) : decodeBlock P hex pc' base = decodeBlock P hex pc base :=
  decodeBlock_eq_of_taBase fun r hr => taBase_pc_congr (by rwa [hr] at h) ..

theorem decodeBlock_base_congr {P : Params} {hex : List Char} {pc base : Int} (h : ¬ ReadsBase (decodeBlock P hex pc base))
    (base' : Int) : decodeBlock P hex pc base' = decodeBlock P hex pc base :=
  decodeBlock_eq_of_taBase fun r hr => taBase_base_congr (by rwa [hr] at h) ..

/-! ## A run takes one step after another -/

theorem run_succ_of_step {s t : State} (h : step s = .next t) (k : Nat) :
    Host.Core.run Sys2Proof.core (k + 1) s = Host.Core.run Sys2Proof.core k t := by
  have hcore : Sys2Proof.core.step s = .next t := h
  simp only [Host.Core.run, hcore]

end Sys2Proof.Machine

/-! # The obligations of 45_decode_result.md -/

namespace Sys2Proof.Proofs

open Sys2Proof Sys2Proof.Machine Sys2Proof.Claims

/-- Settles O1: each of the 32 class meanings is the composition of the sub-blocks (`exec_eq_decodeFields`), on each case of the
classifier. -/
theorem stepIsDecodeBlock : Obligations.StepIsDecodeBlock := step_eq_decodeBlock

/-- Settles O9, by induction on the number of steps: the first of them always has a next state. -/
theorem everyRunGoesOn : Obligations.EveryRunGoesOn := by
  intro s k
  induction k generalizing s with
  | zero => exact ⟨s, rfl⟩
  | succ k ih =>
    rw [run_succ_of_step (step_eq_decodeBlock s)]
    exact ih _

/-- Settles O41: the step is the decode function, which reads each port in one row of the base part, and of the digits the value
alone. -/
theorem inputsNotRead : Obligations.InputsNotRead := by
  intro s
  refine ⟨_, step_eq_decodeBlock s, fun hpc pc' => ?pc, fun hbase base' => ?base, ?hex⟩
  case pc => exact step_eq_next_iff.mpr (decodeBlock_pc_congr hpc (val pc'))
  case base => exact step_eq_next_iff.mpr (decodeBlock_base_congr hbase (val base'))
  case hex => exact step_eq_next_iff.mpr (decodeBlock_normalise ..)

/-- Settles O42: the decode function's arguments are the parameters and the inputs, which no earlier output changes. -/
theorem historyDoesNotMatter : Obligations.HistoryDoesNotMatter :=
  fun s => ⟨_, step_eq_decodeBlock s, fun before => step_eq_decodeBlock { s with out := before }, step_eq_decodeBlock _⟩

/-- Settles O7: the two cases of the decoder's answer are the two branches of the step. -/
theorem stepRunsDecodedInstruction : Obligations.StepRunsDecodedInstruction := by
  refine ⟨fun s i h => ?instr, fun s err h => ?rejected⟩
  case instr => rw [step, h]
  case rejected =>
    rw [step, h]
    rfl

end Sys2Proof.Proofs

/-! # The class rules (R210 to R225, R230 to R245)

A class rule speaks of its instruction and of every word that the class's mask and match value select. Both come to the
decode of fields whose n, i, b and p are those of the class (`classF3_of_flags`, `classF4_of_flags`). In Format 3 that decode is
written once for each row of the multiplexers (`f3Result_simpleSic` to `f3Result_baseRel`). -/

namespace Sys2Proof

open Sys2Proof.Claims

/-! ## The packed word by its place values (R71) -/

theorem toNat_append_eq_mul_add {m k : Nat} (u : BitVec m) (v : BitVec k) : (u ++ v).toNat = u.toNat * 2 ^ k + v.toNat := by
  rw [BitVec.toNat_append, ← Nat.shiftLeft_add_eq_or_of_lt v.isLt, Nat.shiftLeft_eq]

theorem toNat_ofBool_eq_bit (b : Bool) : (BitVec.ofBool b).toNat = bit b := by
  cases b <;> rfl

theorem layout_toNat {k : Nat} (f : Fields) (d : BitVec k) :
    (layout f d).toNat = f.opcode6.toNat * 2 ^ (6 + k) + bit f.n * 2 ^ (5 + k) + bit f.i * 2 ^ (4 + k) + bit f.x * 2 ^ (3 + k)
      + bit f.b * 2 ^ (2 + k) + bit f.p * 2 ^ (1 + k) + bit f.e * 2 ^ k + d.toNat := by
  simp only [layout, toNat_append_eq_mul_add, toNat_ofBool_eq_bit]
  simp only [Nat.add_mul, Nat.mul_assoc, ← Nat.pow_add, Nat.reduceAdd]

/-- The `word` port of a Format 3 record. -/
theorem setWidth_packF3 (op : Opcode6) (n i x b p e : Bool) (d : Field12) :
    (packF3 (f3Fields op n i x b p e d)).setWidth 32 =
      BitVec.ofNat 32 (op.toNat * 2 ^ 18 + bit n * 2 ^ 17 + bit i * 2 ^ 16 + bit x * 2 ^ 15 + bit b * 2 ^ 14 + bit p * 2 ^ 13
        + bit e * 2 ^ 12 + d.toNat) := by
  have hfield : (d.setWidth 20).setWidth 12 = d := by simp
  have hplaces := layout_toNat (f3Fields op n i x b p e d) ((d.setWidth 20).setWidth 12)
  rw [← BitVec.ofNat_toNat]
  refine congrArg (BitVec.ofNat 32) (hplaces.trans ?_)
  rw [hfield]
  rfl

/-! ## What the class's mask and match value say of a word (R76, R85) -/

/-- A Format 3 word that matches a class has the n, i, b and p of the class. -/
theorem f3Fields_of_masked {w : Word24} {n i b p : Bool} (h : w &&& 0x36000 = packF3 (f3Fields 0 n i false b p false 0)) :
    f3Fields (w.extractLsb' 18 6) n i (w.getLsbD 15) b p (w.getLsbD 12) (w.extractLsb' 0 12) = extract w := by
  have hport : (packF3 (f3Fields 0 (extract w).n (extract w).i false (extract w).b (extract w).p false 0)).setWidth 32 =
      (packF3 (f3Fields 0 n i false b p false 0)).setWidth 32 := by
    rw [← maskedF3_eq, ← h, BitVec.setWidth_and]
    rfl
  have hfields := congrArg (fun v => extract (v.setWidth 24)) hport
  simp only [BitVec.setWidth_setWidth_of_le _ (show 24 ≤ 32 by decide), BitVec.setWidth_eq, extract_packF3] at hfields
  injection hfields with _ hn hi _ hb hp
  exact f3Fields_eq_extract hn hi hb hp

/-- A Format 4 word that matches a class has the n, i, b and p of the class. -/
theorem f4Fields_of_masked {w : Word32} {n i b p : Bool} (h : w &&& 0x3600000 = packF4 (f4Fields 0 n i false b p false 0)) :
    f4Fields (w.extractLsb' 26 6) n i (w.getLsbD 23) b p (w.getLsbD 20) (w.extractLsb' 0 20) = extract w := by
  have hfields := congrArg extract ((maskedF4_eq w).symm.trans h)
  rw [extract_packF4, extract_packF4] at hfields
  injection hfields with _ hn hi _ hb hp
  exact f4Fields_eq_extract hn hi hb hp

end Sys2Proof

namespace Sys2Proof.Machine

open Sys2Proof Sys2Proof.Claims

/-! ## A class rule is the decode of the class's fields -/

/-- The decode of the Format 3 word with the fields `f`, on the ports of `s`. -/
def f3Result (s : State) (f : Fields) : DecodeResult :=
  decodeFields s.params .f3 ((packF3 f).setWidth 32) f (val s.pc) (val s.base)

/-- The decode of the Format 4 word with the fields `f`, on the ports of `s`. -/
def f4Result (s : State) (f : Fields) : DecodeResult := decodeFields s.params .f4 (packF4 f) f (val s.pc) (val s.base)

theorem exec_of_f3 {i : Instr} (h : i.fmt = .f3) (s : State) : exec i s = .next { s with out := f3Result s i.fields } := by
  simp [exec_eq_decodeFields, Instr.word, h, f3Result]

theorem exec_of_f4 {i : Instr} (h : i.fmt = .f4) (s : State) : exec i s = .next { s with out := f4Result s i.fields } := by
  simp [exec_eq_decodeFields, Instr.word, h, f4Result]

theorem step_eq_f3Result {s : State} {w : Word24} (h : classify s.hex = .f3 w) :
    step s = .next { s with out := f3Result s (extract w) } := by
  rw [step_eq_decodeFields_of_f3 h, f3Result, packF3_extract]

theorem step_eq_f4Result {s : State} {w : Word32} (h : classify s.hex = .f4 w) :
    step s = .next { s with out := f4Result s (extract w) } := by
  rw [step_eq_decodeFields_of_f4 h, f4Result, packF4_extract]

/-- The rule of a Format 3 class, from its row's match value, its instruction's fields and the decode of those fields. -/
theorem classF3_of_flags {m : Word24} {mk : Opcode6 → Bool → Bool → Field12 → Instr} {n i b p : Bool}
    {res : Opcode6 → Bool → Bool → Field12 → State → DecodeResult}
    (hm : m = packF3 (f3Fields 0 n i false b p false 0))
    (hmk : ∀ op x e d, (mk op x e d).fmt = .f3 ∧ (mk op x e d).fields = f3Fields op n i x b p e d)
    (hres : ∀ op x e d s, f3Result s (f3Fields op n i x b p e d) = res op x e d s) : ClassF3 m mk res := by
  refine ⟨fun op x e d s => ?exec, fun s w hw hmask => ?step⟩
  case exec =>
    obtain ⟨hfmt, hfields⟩ := hmk op x e d
    rw [exec_of_f3 hfmt, hfields, hres]
  case step => rw [step_eq_f3Result hw, ← f3Fields_of_masked (hmask.trans hm), hres]

/-- The rule of a Format 4 class, from its row's match value, its instruction's fields and the decode of those fields. -/
theorem classF4_of_flags {m : Word32} {mk : Opcode6 → Bool → Bool → Field20 → Instr} {n i b p : Bool}
    {res : Opcode6 → Bool → Bool → Field20 → State → DecodeResult}
    (hm : m = packF4 (f4Fields 0 n i false b p false 0))
    (hmk : ∀ op x e d, (mk op x e d).fmt = .f4 ∧ (mk op x e d).fields = f4Fields op n i x b p e d)
    (hres : ∀ op x e d s, f4Result s (f4Fields op n i x b p e d) = res op x e d s) : ClassF4 m mk res := by
  refine ⟨fun op x e d s => ?exec, fun s w hw hmask => ?step⟩
  case exec =>
    obtain ⟨hfmt, hfields⟩ := hmk op x e d
    rw [exec_of_f4 hfmt, hfields, hres]
  case step => rw [step_eq_f4Result hw, ← f4Fields_of_masked (hmask.trans hm), hres]

/-! ## The decode of a class's fields, row by row of the multiplexers -/

/-- R143: (b, p) = (1, 1) in a qualified mode. -/
theorem decodeFields_invalid {fmt : Format} {f : Fields} (hmode : Mode.qualified (modeMux fmt f.n f.i) = true)
    (hb : f.b = true) (hp : f.p = true) (P : Params) (word : Word32) (pc base : Int) :
    decodeFields P fmt word f pc base = .error .invalidFlagCombination := by
  unfold decodeFields
  rw [hb, hp, qualMux_invalid hmode]

theorem mkRecord_f3Fields (op : Opcode6) (n i x b p e : Bool) (d : Field12) (mode : Mode) (qual : Qual) (signed : Bool)
    (disp : Int) (ta : Option Int) :
    mkRecord .f3 ((packF3 (f3Fields op n i x b p e d)).setWidth 32) (f3Fields op n i x b p e d) mode qual signed disp ta =
      f3Record op n i x b p e d mode qual signed disp ta := by
  rw [setWidth_packF3]
  simp [mkRecord, f3Record, f3Fields, effOpcode_eq_ofNat]

theorem sint12_eq_signed12 (d : Field12) : sint12 d = signed12 d := by
  unfold signed12
  split
  next h => exact sint12_of_ge h
  next h => exact sint12_of_lt (Nat.lt_of_not_le h)

/-- The record of a Format 3 class whose (b, p) the qualifier multiplexer answers. -/
theorem f3Result_of_qualMux {n i b p : Bool} {q : Qual} (hq : qualMux .f3 (modeMux .f3 n i) b p = some q)
    (op : Opcode6) (x e : Bool) (d : Field12) (s : State) :
    f3Result s (f3Fields op n i x b p e d) =
      .ok (f3Record op n i x b p e d (modeMux .f3 n i) q (signEnable .f3 q) (fieldDisp d q)
        (taAlu s.params .f3 (modeMux .f3 n i) q x (val s.pc) (val s.base) (fieldDisp d q))) := by
  rw [f3Result, decodeFields_f3Fields, hq, ← mkRecord_f3Fields]

/-- R210 to R213: SIMPLE_SIC takes no qualifier, whatever b and p. -/
theorem f3Result_simpleSic (b p : Bool) (op : Opcode6) (x e : Bool) (d : Field12) (s : State) :
    f3Result s (f3Fields op false false x b p e d) =
      .ok (f3Record op false false x b p e d .simpleSic .none false d.toNat (some (d.toNat + indexed s x))) :=
  f3Result_of_qualMux (qualMux_of_not_qualified rfl .f3 b p) op x e d s

/-- R218 to R221: IMMEDIATE takes no qualifier and has no target address, whatever b and p. -/
theorem f3Result_immediate (b p : Bool) (op : Opcode6) (x e : Bool) (d : Field12) (s : State) :
    f3Result s (f3Fields op false true x b p e d) =
      .ok (f3Record op false true x b p e d .immediate .none false d.toNat none) :=
  f3Result_of_qualMux (qualMux_of_not_qualified rfl .f3 b p) op x e d s

/-- R214, R222: (b, p) = (0, 0) with n = 1, which is SIMPLE or INDIRECT. -/
theorem f3Result_direct (i : Bool) (op : Opcode6) (x e : Bool) (d : Field12) (s : State) :
    f3Result s (f3Fields op true i x false false e d) =
      .ok (f3Record op true i x false false e d (modeMux .f3 true i) .direct false d.toNat
        (some (d.toNat + indexed s x))) := by
  rw [f3Result_of_qualMux (qualMux_direct (qualified_modeMux_f3 true i))]
  cases i <;> rfl

/-- R215, R223: (b, p) = (0, 1) with n = 1. -/
theorem f3Result_pcRel (i : Bool) (op : Opcode6) (x e : Bool) (d : Field12) (s : State) :
    f3Result s (f3Fields op true i x false true e d) =
      .ok (f3Record op true i x false true e d (modeMux .f3 true i) .pcRel true (signed12 d)
        (some (s.pc.toNat + signed12 d + indexed s x))) := by
  rw [f3Result_of_qualMux (qualMux_pcRel (qualified_modeMux_f3 true i) .f3), ← sint12_eq_signed12]
  cases i <;> rfl

/-- R216, R224: (b, p) = (1, 0) with n = 1. -/
theorem f3Result_baseRel (i : Bool) (op : Opcode6) (x e : Bool) (d : Field12) (s : State) :
    f3Result s (f3Fields op true i x true false e d) =
      .ok (f3Record op true i x true false e d (modeMux .f3 true i) .baseRel false d.toNat
        (some (s.base.toNat + d.toNat + indexed s x))) := by
  rw [f3Result_of_qualMux (qualMux_baseRel (qualified_modeMux_f3 true i) .f3)]
  cases i <;> rfl

end Sys2Proof.Machine

/-! # The obligations of 46_cases_format3.md -/

namespace Sys2Proof.Proofs

open Sys2Proof Sys2Proof.Machine Sys2Proof.Claims

/-- Settles O11: SIMPLE_SIC reports the same qualifier and sum in all four rows of (b, p). -/
theorem f3SimpleSicClasses : Obligations.F3SimpleSicClasses :=
  ⟨classF3_of_flags rfl (fun _ _ _ _ => ⟨rfl, rfl⟩) (f3Result_simpleSic false false),
    classF3_of_flags rfl (fun _ _ _ _ => ⟨rfl, rfl⟩) (f3Result_simpleSic false true),
    classF3_of_flags rfl (fun _ _ _ _ => ⟨rfl, rfl⟩) (f3Result_simpleSic true false),
    classF3_of_flags rfl (fun _ _ _ _ => ⟨rfl, rfl⟩) (f3Result_simpleSic true true)⟩

/-- Settles O12: SIMPLE is n = 1 with i = 1, in the three rows of (b, p) that have a qualifier. -/
theorem f3SimpleClasses : Obligations.F3SimpleClasses :=
  ⟨classF3_of_flags rfl (fun _ _ _ _ => ⟨rfl, rfl⟩) (f3Result_direct true),
    classF3_of_flags rfl (fun _ _ _ _ => ⟨rfl, rfl⟩) (f3Result_pcRel true),
    classF3_of_flags rfl (fun _ _ _ _ => ⟨rfl, rfl⟩) (f3Result_baseRel true)⟩

/-- Settles O13: in a qualified mode of either format the multiplexer has no answer to (b, p) = (1, 1). -/
theorem flagCombinationErrors : Obligations.FlagCombinationErrors :=
  ⟨classF3_of_flags rfl (fun _ _ _ _ => ⟨rfl, rfl⟩) fun _ _ _ _ _ => decodeFields_invalid rfl rfl rfl ..,
    classF3_of_flags rfl (fun _ _ _ _ => ⟨rfl, rfl⟩) fun _ _ _ _ _ => decodeFields_invalid rfl rfl rfl ..,
    classF4_of_flags rfl (fun _ _ _ _ => ⟨rfl, rfl⟩) fun _ _ _ _ _ => decodeFields_invalid rfl rfl rfl ..,
    classF4_of_flags rfl (fun _ _ _ _ => ⟨rfl, rfl⟩) fun _ _ _ _ _ => decodeFields_invalid rfl rfl rfl ..⟩

/-- Settles O14: IMMEDIATE reports no qualifier and no target address in all four rows of (b, p). -/
theorem f3ImmediateClasses : Obligations.F3ImmediateClasses :=
  ⟨classF3_of_flags rfl (fun _ _ _ _ => ⟨rfl, rfl⟩) (f3Result_immediate false false),
    classF3_of_flags rfl (fun _ _ _ _ => ⟨rfl, rfl⟩) (f3Result_immediate false true),
    classF3_of_flags rfl (fun _ _ _ _ => ⟨rfl, rfl⟩) (f3Result_immediate true false),
    classF3_of_flags rfl (fun _ _ _ _ => ⟨rfl, rfl⟩) (f3Result_immediate true true)⟩

/-- Settles O15: INDIRECT is n = 1 with i = 0, in the three rows of (b, p) that have a qualifier. -/
theorem f3IndirectClasses : Obligations.F3IndirectClasses :=
  ⟨classF3_of_flags rfl (fun _ _ _ _ => ⟨rfl, rfl⟩) (f3Result_direct false),
    classF3_of_flags rfl (fun _ _ _ _ => ⟨rfl, rfl⟩) (f3Result_pcRel false),
    classF3_of_flags rfl (fun _ _ _ _ => ⟨rfl, rfl⟩) (f3Result_baseRel false)⟩

end Sys2Proof.Proofs

/-! # The decode of a Format 4 class's fields (R163, R181)

A Format 4 displacement is the field itself, and no port enters its target address, so the rules of Format 4 differ in mode and
qualifier alone: one lemma gives the record in the qualified modes (`f4Result_qualified`), one in IMMEDIATE
(`f4Result_immediate`). -/

namespace Sys2Proof

open Sys2Proof.Claims

/-- The `word` port of a Format 4 record, by the place values of R72. -/
theorem packF4_eq_ofNat (op : Opcode6) (n i x b p e : Bool) (d : Field20) :
    packF4 (f4Fields op n i x b p e d) =
      BitVec.ofNat 32 (op.toNat * 2 ^ 26 + bit n * 2 ^ 25 + bit i * 2 ^ 24 + bit x * 2 ^ 23 + bit b * 2 ^ 22 + bit p * 2 ^ 21
        + bit e * 2 ^ 20 + d.toNat) := by
  rw [← BitVec.setWidth_eq (packF4 _), ← BitVec.ofNat_toNat]
  exact congrArg (BitVec.ofNat 32) (layout_toNat (f4Fields op n i x b p e d) d)

end Sys2Proof

namespace Sys2Proof.Machine

open Sys2Proof Sys2Proof.Claims

theorem mkRecord_f4Fields (op : Opcode6) (n i x b p e : Bool) (d : Field20) (mode : Mode) (qual : Qual) (disp : Int)
    (ta : Option Int) :
    mkRecord .f4 (packF4 (f4Fields op n i x b p e d)) (f4Fields op n i x b p e d) mode qual false disp ta =
      f4Record op n i x b p e d mode qual disp ta := by
  rw [packF4_eq_ofNat]
  simp [mkRecord, f4Record, f4Fields, effOpcode_eq_ofNat]

/-- R160: the sign-extender is never enabled in Format 4. -/
@[simp] theorem signEnable_f4 (q : Qual) : signEnable .f4 q = false := rfl

/-- R163: the record of a Format 4 class whose (b, p) the qualifier multiplexer answers has the field as its displacement. -/
theorem f4Result_of_qualMux {n i b p : Bool} {q : Qual} (hq : qualMux .f4 (modeMux .f4 n i) b p = some q)
    (op : Opcode6) (x e : Bool) (d : Field20) (s : State) :
    f4Result s (f4Fields op n i x b p e d) =
      .ok (f4Record op n i x b p e d (modeMux .f4 n i) q d.toNat
        (taAlu s.params .f4 (modeMux .f4 n i) q x (val s.pc) (val s.base) d.toNat)) := by
  rw [← mkRecord_f4Fields, f4Result, decodeFields]
  simp only [f4Fields, hq, signEnable_f4, signExtender_off]
  rfl

/-- R238 to R241: IMMEDIATE takes no qualifier and has no target address, whatever b and p. -/
theorem f4Result_immediate (b p : Bool) (op : Opcode6) (x e : Bool) (d : Field20) (s : State) :
    f4Result s (f4Fields op false true x b p e d) =
      .ok (f4Record op false true x b p e d .immediate .none d.toNat none) :=
  f4Result_of_qualMux (qualMux_of_not_qualified rfl .f4 b p) op x e d s

/-- R230 to R232, R234 to R236, R242 to R244: in a qualified mode the target address is the field plus the offset, whatever the
qualifier. -/
theorem f4Result_qualified {n i b p : Bool} {q : Qual} (hmode : Mode.qualified (modeMux .f4 n i) = true)
    (hq : qualMux .f4 (modeMux .f4 n i) b p = some q) (op : Opcode6) (x e : Bool) (d : Field20) (s : State) :
    f4Result s (f4Fields op n i x b p e d) =
      .ok (f4Record op n i x b p e d (modeMux .f4 n i) q d.toNat (some (d.toNat + indexed s x))) := by
  have hne : modeMux .f4 n i ≠ .immediate := fun h => by simp [h, Mode.qualified] at hmode
  rw [f4Result_of_qualMux hq, taAlu_of_ne_immediate hne]
  rfl

end Sys2Proof.Machine

/-! # The obligations of 47_cases_format4.md -/

namespace Sys2Proof.Proofs

open Sys2Proof Sys2Proof.Machine Sys2Proof.Claims

/-- Settles O16: SIMPLE_DIRECT4 is a qualified mode (D9), so three rows of (b, p) have a qualifier and the fourth is the error. -/
theorem f4SimpleDirect4Classes : Obligations.F4SimpleDirect4Classes :=
  ⟨classF4_of_flags rfl (fun _ _ _ _ => ⟨rfl, rfl⟩) (f4Result_qualified rfl (qualMux_absolute rfl)),
    classF4_of_flags rfl (fun _ _ _ _ => ⟨rfl, rfl⟩) (f4Result_qualified rfl (qualMux_pcRel rfl .f4)),
    classF4_of_flags rfl (fun _ _ _ _ => ⟨rfl, rfl⟩) (f4Result_qualified rfl (qualMux_baseRel rfl .f4)),
    classF4_of_flags rfl (fun _ _ _ _ => ⟨rfl, rfl⟩) fun _ _ _ _ _ => decodeFields_invalid rfl rfl rfl ..⟩

/-- Settles O17: SIMPLE is (n, i) = (1, 1), in the three rows of (b, p) that have a qualifier. -/
theorem f4SimpleClasses : Obligations.F4SimpleClasses :=
  ⟨classF4_of_flags rfl (fun _ _ _ _ => ⟨rfl, rfl⟩) (f4Result_qualified rfl (qualMux_absolute rfl)),
    classF4_of_flags rfl (fun _ _ _ _ => ⟨rfl, rfl⟩) (f4Result_qualified rfl (qualMux_pcRel rfl .f4)),
    classF4_of_flags rfl (fun _ _ _ _ => ⟨rfl, rfl⟩) (f4Result_qualified rfl (qualMux_baseRel rfl .f4))⟩

/-- Settles O18: IMMEDIATE reports no qualifier and no target address in all four rows of (b, p). -/
theorem f4ImmediateClasses : Obligations.F4ImmediateClasses :=
  ⟨classF4_of_flags rfl (fun _ _ _ _ => ⟨rfl, rfl⟩) (f4Result_immediate false false),
    classF4_of_flags rfl (fun _ _ _ _ => ⟨rfl, rfl⟩) (f4Result_immediate false true),
    classF4_of_flags rfl (fun _ _ _ _ => ⟨rfl, rfl⟩) (f4Result_immediate true false),
    classF4_of_flags rfl (fun _ _ _ _ => ⟨rfl, rfl⟩) (f4Result_immediate true true)⟩

/-- Settles O19: INDIRECT is (n, i) = (1, 0), in the three rows of (b, p) that have a qualifier. -/
theorem f4IndirectClasses : Obligations.F4IndirectClasses :=
  ⟨classF4_of_flags rfl (fun _ _ _ _ => ⟨rfl, rfl⟩) (f4Result_qualified rfl (qualMux_absolute rfl)),
    classF4_of_flags rfl (fun _ _ _ _ => ⟨rfl, rfl⟩) (f4Result_qualified rfl (qualMux_pcRel rfl .f4)),
    classF4_of_flags rfl (fun _ _ _ _ => ⟨rfl, rfl⟩) (f4Result_qualified rfl (qualMux_baseRel rfl .f4))⟩

end Sys2Proof.Proofs

/-! # Which check fails (R261 to R264)

Each condition the spec names on the characters is a condition the model tests: a bad sequence is one the hex check rejects
(`badHex_iff`), and bad flags are those of the word on which the qualifier multiplexer has no answer
(`badFlags_iff_of_length_six`, `badFlags_iff_of_length_eight`). -/

namespace Sys2Proof

open Sys2Proof.Claims

/-- R100: a character outside the list of digits is one without a value. -/
theorem not_isHexDigit_iff {c : Char} : isHexDigit c = false ↔ ∀ v, (c, v) ∉ hexDigits := by
  simp [isHexDigit, Option.eq_none_iff_forall_ne_some, hexDigit?_eq_some_iff]

/-- R101, R261: the hex check rejects exactly the bad sequences. -/
theorem badHex_iff {cs : List Char} : BadHex cs ↔ hexOk cs = false := by
  simp only [BadHex, ← not_isHexDigit_iff, hexOk, Bool.and_eq_false_iff, Bool.not_eq_false', List.isEmpty_iff,
    List.all_eq_false, Bool.not_eq_true]

end Sys2Proof

namespace Sys2Proof.Machine

open Sys2Proof Sys2Proof.Claims

/-- R143, R263: (b, p) = (1, 1) in a qualified mode. -/
def InvalidFlags (fmt : Format) (f : Fields) : Prop :=
  Mode.qualified (modeMux fmt f.n f.i) = true ∧ f.b = true ∧ f.p = true

/-- R140, R141: a Format 4 mode takes the (b, p) qualifier in every row but IMMEDIATE's. -/
theorem qualified_modeMux_f4 (n i : Bool) : Mode.qualified (modeMux .f4 n i) = (n || !i) := by
  cases n <;> cases i <;> rfl

/-- R142, R143: the qualifier multiplexer has no answer on (b, p) = (1, 1) in a qualified mode, and there alone. -/
theorem qualMux_eq_none_iff {fmt : Format} {m : Mode} {b p : Bool} :
    qualMux fmt m b p = none ↔ Mode.qualified m = true ∧ b = true ∧ p = true := by
  cases hm : Mode.qualified m with
  | false => simp [qualMux_of_not_qualified hm]
  | true =>
    cases b <;> cases p
    case false.false => cases fmt <;> simp [qualMux_direct hm, qualMux_absolute hm]
    case false.true => simp [qualMux_pcRel hm]
    case true.false => simp [qualMux_baseRel hm]
    case true.true => simp [qualMux_invalid hm]

/-- Where the flags are valid, there is a record. -/
theorem decodeFields_of_not_invalidFlags {fmt : Format} {f : Fields} (h : ¬ InvalidFlags fmt f) (P : Params) (word : Word32)
    (pc base : Int) : ∃ r, decodeFields P fmt word f pc base = .ok r := by
  obtain ⟨q, hq⟩ := Option.ne_none_iff_exists'.mp (mt qualMux_eq_none_iff.mp h)
  obtain ⟨r, hr, -⟩ := decodeFields_eq_ok hq P word pc base
  exact ⟨r, hr⟩

/-- R263 for a Format 3 word: the places of its flags (R71), and n for the qualified modes. -/
theorem badFlags_iff_of_length_six {cs : List Char} (hlen : cs.length = 6) {w : Word24} (hval : w.toNat = hexValue cs) :
    BadFlags cs ↔ InvalidFlags .f3 (extract w) := by
  simp [BadFlags, InvalidFlags, hlen, ← hval, BitVec.testBit_toNat, qualified_modeMux_f3, extract]

/-- R263 for a Format 4 word: the places of its flags (R72), and every (n, i) but (0, 1) for the qualified modes. -/
theorem badFlags_iff_of_length_eight {cs : List Char} (hlen : cs.length = 8) {w : Word32} (hval : w.toNat = hexValue cs) :
    BadFlags cs ↔ InvalidFlags .f4 (extract w) := by
  simp [BadFlags, InvalidFlags, hlen, ← hval, BitVec.testBit_toNat, qualified_modeMux_f4, extract]

/-- R264: after the hex and length checks, the flags alone decide between INVALID_FLAG_COMBINATION and a record. -/
theorem decodeFields_decided_by_flags (P : Params) (fmt : Format) (word : Word32) (f : Fields) (pc base : Int) :
    (InvalidFlags fmt f → decodeFields P fmt word f pc base = .error .invalidFlagCombination ∧
      (decodeFields P fmt word f pc base).errPort = 0b11) ∧
    (¬ InvalidFlags fmt f → ∃ r, decodeFields P fmt word f pc base = .ok r ∧
      (decodeFields P fmt word f pc base).errPort = 0b00) := by
  refine ⟨fun ⟨hmode, hb, hp⟩ => ?invalid, fun h => ?valid⟩
  case invalid =>
    rw [decodeFields_invalid hmode hb hp]
    exact ⟨rfl, rfl⟩
  case valid =>
    obtain ⟨r, hr⟩ := decodeFields_of_not_invalidFlags h P word pc base
    rw [hr]
    exact ⟨r, rfl, rfl⟩

end Sys2Proof.Machine

/-! # The obligations of 60_exceptions.md and 70_reset_and_hazards.md -/

namespace Sys2Proof.Proofs

open Sys2Proof Sys2Proof.Machine Sys2Proof.Claims

/-- Settles O24: the classifier's four answers are the first two checks and the two formats, in which the flags are the third. -/
theorem errorPriority : Obligations.ErrorPriority := by
  intro s
  rw [badHex_iff]
  rcases classify_cases s.hex with ⟨hok, h⟩ | ⟨hok, hlen, h⟩ | ⟨hok, hlen, h⟩ | ⟨hok, h6, h8, h⟩
  case inl => exact ⟨_, step_of_rejected h, by simp [hok, DecodeResult.errPort]⟩
  case inr.inl =>
    rw [badFlags_iff_of_length_six hlen (toNat_ofNat_hexValue hlen)]
    obtain ⟨hinvalid, hvalid⟩ := decodeFields_decided_by_flags s.params .f3 _ (extract _) (val s.pc) (val s.base)
    exact ⟨_, step_eq_decodeFields_of_f3 h, by simp [hok],
      fun _ hl => absurd hlen hl.1, fun _ _ => hinvalid, fun _ _ => hvalid⟩
  case inr.inr.inl =>
    rw [badFlags_iff_of_length_eight hlen (toNat_ofNat_hexValue hlen)]
    obtain ⟨hinvalid, hvalid⟩ := decodeFields_decided_by_flags s.params .f4 _ (extract _) (val s.pc) (val s.base)
    exact ⟨_, step_eq_decodeFields_of_f4 h, by simp [hok],
      fun _ hl => absurd hlen hl.2, fun _ _ => hinvalid, fun _ _ => hvalid⟩
  case inr.inr.inr => exact ⟨_, step_of_rejected h, by simp [hok, BadLength, h6, h8, DecodeResult.errPort]⟩

/-- Settles O5: the output is an error, so no record has to be legal; and it is what a step from there answers, which is settled
(O6). -/
theorem resetIsLegalAndSettled : Obligations.ResetIsLegalAndSettled := by
  refine ⟨fun r h => ?legal, ?settled⟩
  case legal => exact nomatch State.reset_out.symm.trans h
  case settled =>
    have hclassify : classify State.reset.hex = .rejected .invalidHex := by decide
    exact stepSettlesOutputs State.reset State.reset (step_of_rejected hclassify)

end Sys2Proof.Proofs
